-- ==== Sys2Proof/Word.lean ====
section
/-! DEFINITION. The words of the FJ-2410 and the records its slot store and its commands carry: ports, region keys,
holds, entry bodies, stored slots. -/

namespace Sys2Proof

/-- One byte of a service transaction or of a frame. -/
abbrev Byte := BitVec 8
/-- A 16-bit field of a frame header or a service parameter. -/
abbrev Half := BitVec 16
/-- A 32-bit word of a journal link frame (chapter 11). -/
abbrev Word := BitVec 32
/-- An entry's creation number (R17). -/
abbrev Stamp := BitVec 64
/-- The number of a port's session (R50); 0 before the first attach. -/
abbrev Epoch := BitVec 16
/-- A count of milliseconds since power-on (R139). -/
abbrev Uptime := BitVec 48

/-- The two peer ports (Conventions, Ports). -/
inductive Port where
  | a
  | b
  deriving DecidableEq, Repr

/-- The peer of a port. -/
def Port.other : Port → Port
  | .a => .b
  | .b => .a

/-- One value for each peer port. -/
structure PerPort (α : Type) where
  a : α
  b : α
  deriving DecidableEq, Repr

/-- The value of one port. -/
def PerPort.get {α : Type} (x : PerPort α) : Port → α
  | .a => x.a
  | .b => x.b

/-- The pair with one port's value replaced. -/
def PerPort.set {α : Type} (x : PerPort α) (p : Port) (v : α) : PerPort α :=
  match p with
  | .a => { x with a := v }
  | .b => { x with b := v }

/-- A region key: volume 0..255 and region 0..4,294,967,295 (Terms, region key). -/
structure RegionKey where
  volume : Byte
  region : Word
  deriving DecidableEq, Repr, Inhabited

/-- What one copy of a key store holds (R2): a region key, or the free marker, which is distinct from every key. -/
inductive KeyValue where
  | freeMarker
  | key (k : RegionKey)
  deriving DecidableEq, Repr, Inhabited

/-- The three copies of a key store (R2). -/
structure KeyCopies where
  c0 : KeyValue
  c1 : KeyValue
  c2 : KeyValue
  deriving DecidableEq, Repr, Inhabited

/-- The outcomes of a key-store vote (R2). -/
inductive VoteOutcome where
  | agree
  | oneOff
  | split
  | mismatch
  deriving DecidableEq, Repr

/-- The outcomes of a body read (R3). -/
inductive EccOutcome where
  | clean
  | corrected
  | uncorrectable
  deriving DecidableEq, Repr, Inhabited

/-- The states of an entry (R11): OPEN, ORPHAN, ADOPTED. -/
inductive EntryState where
  | opened
  | orphan
  | adopted
  deriving DecidableEq, Repr, Inhabited

/-- A hold that is not empty: its count, 1..15, and the epoch it was taken under (R7). -/
structure Held where
  count : Nat
  epoch : Epoch
  deriving DecidableEq, Repr, Inhabited

/-- A port with the epoch of one of its sessions: an adopter (R6). -/
structure Adopter where
  port  : Port
  epoch : Epoch
  deriving DecidableEq, Repr

/-- The fields of an entry that its body holds: all but the key (R3, R6). A hold of count 0 is `none` (its epoch is
absent, R7); the note is absent when its list is empty (R9). -/
structure EntryBody where
  state      : EntryState
  holdA      : Option Held
  holdB      : Option Held
  lostHolder : Bool
  damaged    : Bool
  stamp      : Stamp
  note       : List Word
  adopter    : Option Adopter
  deriving DecidableEq, Repr, Inhabited

/-- What a body was last written with (R3): the free body or an entry's fields. -/
inductive BodyContent where
  | freeBody
  | entry (e : EntryBody)
  deriving DecidableEq, Repr, Inhabited

/-- The storage of one slot: the key copies, the body as last written, and what a read of the body now yields (R2, R3).
While `ecc` is `uncorrectable` the fields of `body` cannot be recovered, and nothing reads them. -/
structure StoredSlot where
  keys : KeyCopies
  body : BodyContent
  ecc  : EccOutcome
  deriving DecidableEq, Repr, Inhabited

/-- What has become of a slot's storage by the time a command reads it: the key copies and the body's ECC state as the
storage now gives them, or `none` where they stand as they were last written or read. Storage failures have no row in the
opcode table; they reach the model as this operand of the reading commands (log 4). -/
structure SlotWear where
  keys : Option KeyCopies := none
  ecc  : Option EccOutcome := none
  deriving DecidableEq, Repr, Inhabited

/-- A slot-keyed table: pairs with the slot numbers strictly rising (`SlotMap.wf`, Machine/Store.lean). -/
abbrev SlotMap (α : Type) := List (Nat × α)

end Sys2Proof
end

