-- ==== Sys2Proof/Syntax.lean ====
section
/-! DEFINITION. The commands of the FJ-2410: one constructor for each row of spec/opcode_table.json. -/

namespace Sys2Proof

/-- The service requests that take an engine grant, with their parameters as sent (R179). -/
inductive GrantRequest where
  | readSlot (slot : Half)
  | retireBlock (block : Byte)
  | freeze
  | thaw
  deriving DecidableEq, Repr

/-- A command: one step of the part. `pins` is the value of ADDR1, ADDR0 at a reset (R174); `wear` is what the storage gave
at the slot read of the command's grant (log 4). A peer-request command is the grant of the head of that port's request
queue, and takes the request's own fields from it (log 2). -/
inductive Instr where
  /-- POWER_ON_RESET (R137). -/
  | powerOnReset (pins : BitVec 2)
  /-- WARM_PIN (R136). -/
  | warmPin (pins : BitVec 2)
  /-- WARM_RESET_KEEP (R184). -/
  | warmResetKeep (pins : BitVec 2)
  /-- WARM_RESET_CLEAR (R23). -/
  | warmResetClear (pins : BitVec 2)
  /-- SIGNAL_DETECT (R99). -/
  | signalDetect (port : Port)
  /-- TRAINING_COMPLETES (R100). -/
  | trainingCompletes (port : Port)
  /-- TRAINING_LIMIT_EXPIRY (R100). -/
  | trainingLimitExpiry (port : Port)
  /-- LOSS_OF_LOCK (R101). -/
  | lossOfLock (port : Port)
  /-- REQUEST_FRAME (R104): the words of a whole frame as received, the CRC word last. -/
  | requestFrame (port : Port) (words : List Word)
  /-- FRAME_TRANSMIT (R120). -/
  | frameTransmit (port : Port)
  /-- BAD_REQUEST (R133). -/
  | badRequest (port : Port)
  /-- ATTACH (R52). -/
  | attach (port : Port)
  /-- DETACH_GRACEFUL (R62). -/
  | detachGraceful (port : Port)
  /-- DETACH_ABRUPT (R65). -/
  | detachAbrupt (port : Port)
  /-- PULSE (R72). -/
  | pulse (port : Port)
  /-- OPEN (R28). -/
  | openIntent (port : Port) (wear : SlotWear)
  /-- CLOSE (R37). -/
  | closeIntent (port : Port) (wear : SlotWear)
  /-- QUERY (R43). -/
  | query (port : Port) (wear : SlotWear)
  /-- ADOPT (R89): the storage outcomes of its slot reads, in the order read; a read beyond the list finds its slot as it
  stands. -/
  | adopt (port : Port) (wears : List SlotWear)
  /-- RESOLVE (R93). -/
  | resolve (port : Port) (wear : SlotWear)
  /-- CLEAR_MARK (R61). -/
  | clearMark (port : Port)
  /-- FENCE_PEER (R68). -/
  | fencePeer (port : Port)
  /-- ACK_NOTICE (R145). -/
  | ackNotice (port : Port)
  /-- STATUS (R73). -/
  | status (port : Port)
  /-- LAPSE_TIMER_EXPIRY (R57). -/
  | lapseTimerExpiry (port : Port)
  /-- DRAIN_TIMER_EXPIRY (R64). -/
  | drainTimerExpiry (port : Port)
  /-- REPEAT_TIMER_EXPIRY (R144). -/
  | repeatTimerExpiry
  /-- LEAK_TIMER_EXPIRY (R154). -/
  | leakTimerExpiry
  /-- SCRUB_PACE_EXPIRY (R131). -/
  | scrubPaceExpiry
  /-- SCRUB_READ (R171). -/
  | scrubRead (wear : SlotWear)
  /-- SWEEP_STEP (R86). -/
  | sweepStep (wear : SlotWear)
  /-- SWEEP_ADVANCE (R86). -/
  | sweepAdvance
  /-- RELOCATION_MOVE (R167). -/
  | relocationMove (wear : SlotWear)
  /-- INITIALISER_WRITE (R124). -/
  | initialiserWrite
  /-- INITIALISER_ADVANCE (R124). -/
  | initialiserAdvance
  /-- GET_SETTING (R180): the setting number sent. -/
  | getSetting (number : Byte)
  /-- SET_SETTING (R180): the setting number and the value sent. -/
  | setSetting (number : Byte) (value : Half)
  /-- READ_VIEW (R182): the view number sent. -/
  | readView (view : Byte)
  /-- READ_SLOT (R183): the grant of the READ_SLOT in progress. -/
  | readSlot (wear : SlotWear)
  /-- IDENTIFY (R202). -/
  | identify
  /-- FENCE (R70): the port parameter sent. -/
  | fence (port : Byte)
  /-- UNFENCE (R71): the port parameter sent. -/
  | unfence (port : Byte)
  /-- SERVICE_CLEAR_MARK (R71): the port parameter sent. -/
  | serviceClearMark (port : Byte)
  /-- FREEZE (R127): the grant of the FREEZE in progress. -/
  | freeze
  /-- THAW (R128): the grant of the THAW in progress. -/
  | thaw
  /-- RETIRE_BLOCK (R164): the grant of the RETIRE_BLOCK in progress. -/
  | retireBlock
  /-- CLEAR_FAULTS (R192): the class set sent. -/
  | clearFaults (classes : Byte)
  /-- UNKNOWN (R176): the bytes of a complete write that is malformed, carries an unknown code, or is a WARM_RESET with an
  option other than KEEP and CLEAR (log 19). -/
  | unknown (bytes : List Byte)
  /-- SERVICE_REQUEST_ACCEPTED (R176): a well-formed write of a request that needs a grant. -/
  | serviceRequestAccepted (request : GrantRequest)
  deriving DecidableEq, Repr

end Sys2Proof
end

