-- ==== Sys2Proof/Decode.lean ====
section
/-! DEFINITION. The command a word spells by the bits of spec/opcode_table.json. No row of the table has bits. -/

namespace Sys2Proof

/-- The command that the word `w` of `nbits` bits spells: none, since the table gives no row any bits (every "fields" is
empty and no row has a "fixed"). -/
def decodeTableWord (_nbits _w : Nat) : Option Instr := none

end Sys2Proof
end

