-- ==== Sys2Proof/Config.lean ====
section
/-! DEFINITION. What the part fixes: the sizes and limits the spec states, the power-on values of the settings, and the one
free value. -/

namespace Sys2Proof.Config

/-- Slots of the store (R1). -/
def slotCount : Nat := 1024
/-- Blocks of the store (R1). -/
def blockCount : Nat := 16
/-- Slots of one block (R1). -/
def slotsPerBlock : Nat := 64
/-- The largest stored hold count (R7). -/
def holdLimit : Nat := 15
/-- Requests a port's queue holds (R106). -/
def requestDepth : Nat := 8
/-- Replies a port's cache holds (R111). -/
def cacheDepth : Nat := 8
/-- Frames a port's outbound queue holds (R117). -/
def outboundDepth : Nat := 16
/-- The training limit in milliseconds (R100). -/
def trainingLimit : Nat := 20
/-- The most payload words of a request frame (R103). -/
def requestPayloadMax : Nat := 6
/-- Entries one ADOPT takes at the most (R89). -/
def adoptLimit : Nat := 4
/-- The retirement count at which no further block is queued (R163). -/
def retireLimit : Nat := 4
/-- The value at which an error bucket saturates (R153). -/
def bucketMax : Nat := 15
/-- How far above LOW_WATER the pool must recover to re-arm (R46). -/
def rearmMargin : Nat := 16
/-- Bytes a write transaction may bring before it is overlong (R175). -/
def collectionMax : Nat := 16
/-- The service port's address with both address pins low (R174). -/
def serviceBase : BitVec 7 := 0x58#7
/-- The stamp counter's largest value, at which no entry is created (R17). -/
def stampMax : Stamp := 0xFFFFFFFFFFFFFFFF#64

/-- FREE VALUE (log 5). What a slot that nothing has written since power-on holds: R21 calls the contents of every slot
unknown. It is applied to the number of power-on resets so far and to the slot. -/
opaque unwrittenSlot : Nat → Nat → StoredSlot

end Sys2Proof.Config
end

