-- ==== Sys2Proof/Machine/State.lean ====
section
/-! DEFINITION. The state of the FJ-2410, block by block (00_scope.md, Block overview), and the machine right after a power-on
reset. Every default value below is the field's power-on value. -/

namespace Sys2Proof.Machine

/-- The states of a session (R48). -/
inductive SessionState where
  | detached
  | attached
  | draining
  | lapsed
  | fenced
  deriving DecidableEq, Repr

/-- A port's session record (R48), with the port's fence line (R67). Timers: `none` is stopped, `some n` running with `n`
milliseconds remaining. -/
structure Session where
  state        : SessionState := .detached
  epoch        : Epoch := 0#16
  lapseMark    : Bool := false
  holdings     : Nat := 0
  adoptions    : Nat := 0
  lapseTimer   : Option Nat := none
  drainTimer   : Option Nat := none
  clearedSince : Bool := true
  fenceLine    : Bool := false
  deriving DecidableEq, Repr

/-- The states of a journal link (R99). -/
inductive LinkState where
  | down
  | training
  | up
  deriving DecidableEq, Repr

/-- A good request frame as received (R106). -/
structure Request where
  kind    : Byte
  seq     : Byte
  epoch   : Epoch
  payload : List Word
  deriving DecidableEq, Repr

/-- The status codes of replies (Table 11-4). -/
inductive ReplyStatus where
  | ok
  | opened
  | joined
  | closed
  | released
  | orphaned
  | noEntry
  | alreadyFenced
  | badRequest
  | notReady
  | notAttached
  | staleEpoch
  | fenced
  | draining
  | frozen
  | journalFull
  | quota
  | holdLimit
  | inRecovery
  | notHeld
  | notFound
  | notAdopter
  | markSet
  | fenceOff
  deriving DecidableEq, Repr

/-- A reply as produced and cached (R111): its kind, the sequence number echoed, status and payload. -/
structure Reply where
  kind    : Byte
  seq     : Byte
  status  : ReplyStatus
  payload : List Word
  deriving DecidableEq, Repr

/-- The ten notice kinds, in kind order (R140). -/
inductive NoticeKind where
  | peerAttached
  | peerDetached
  | peerLapsed
  | peerFenced
  | orphansPresent
  | journalLow
  | entryDamaged
  | journalCompromised
  | blockRetired
  | freezeChanged
  deriving DecidableEq, Repr

/-- A frame for the controller: a reply or replay with the epoch of its header (R113, R135), or a notice with the epoch and
serial of its send (R148). -/
inductive OutFrame where
  | reply (reply : Reply) (epoch : Epoch) (replay : Bool)
  | notice (kind : NoticeKind) (epoch : Epoch) (serial : Byte) (payload : Option Word)
  deriving DecidableEq, Repr

/-- A link port (chapter 5). `sending` is the frame whose transmission began last (R120). -/
structure Link where
  state         : LinkState := .down
  trainingLimit : Option Nat := none
  requests      : List Request := []
  cache         : List Reply := []
  outbound      : List OutFrame := []
  sending       : Option OutFrame := none
  deriving DecidableEq, Repr

/-- The six rotation places, in their fixed order (R130). -/
inductive Place where
  | portA
  | portB
  | service
  | sweeper
  | relocator
  | initialiser
  deriving DecidableEq, Repr

/-- The engine arbiter (R130, R131). `scrubTimer` counts microseconds; `lastWasScrub` says that the last grant made was a
scrub grant (log 22); `sweepRequest` that the sweeper's request for a grant, made while the slot at its position was live,
stands although that slot is no longer live (R86, log 18). -/
structure Arbiter where
  pointer      : Place := .initialiser
  scrubTimer   : Option Nat := none
  scrubDue     : Bool := false
  lastWasScrub : Bool := false
  sweepRequest : Bool := false
  deriving DecidableEq, Repr

/-- The holder summary of an association (R95): the epoch of each port's stored hold, and the adopter. -/
structure HolderSummary where
  holdA   : Option Epoch := none
  holdB   : Option Epoch := none
  adopter : Option Adopter := none
  deriving DecidableEq, Repr

/-- What the index holds for a slot: the key that names it (R12) and the holder summary (R95). -/
structure Association where
  key     : RegionKey
  summary : HolderSummary := {}
  deriving DecidableEq, Repr

/-- A place in the orphan list: the entry's key, with the stamp that ordered it (R79). -/
structure Orphan where
  key   : RegionKey
  stamp : Stamp
  deriving DecidableEq, Repr

/-- The journal (chapters 1 and 4). `store` lists the slots written or read with changed storage since power-on; the others
read as the free value of log 5. -/
structure Journal where
  store       : SlotMap StoredSlot := []
  index       : SlotMap Association := []
  pool        : List Nat := []
  orphans     : List Orphan := []
  stamp       : Stamp := 1#64
  generation  : Half := 1#16
  compromised : Bool := false
  deriving DecidableEq, Repr

/-- The engine states (R123). -/
inductive EngineState where
  | initializing
  | ready
  | frozen
  deriving DecidableEq, Repr

/-- The journal engine's own state (R123, R124, R129, R45). `initPos` is 1024 once initialisation has passed the last slot. -/
structure Engine where
  state            : EngineState := .initializing
  rememberedFreeze : Bool := false
  initPos          : Nat := 0
  armed            : Bool := true
  deriving DecidableEq, Repr

/-- The sweeper (R84). -/
structure Sweeper where
  pending   : Bool := false
  position  : Nat := 0
  endMarker : Nat := 0
  deriving DecidableEq, Repr

/-- The states of a block (R152). -/
inductive BlockState where
  | inService
  | closing
  | moving
  | retired
  deriving DecidableEq, Repr

/-- A block record (R152). -/
structure Block where
  state  : BlockState := .inService
  bucket : Nat := 0
  deriving DecidableEq, Repr

/-- The store integrity unit (chapter 8). `leakTimer` counts milliseconds and stands still while INITIALIZING (R154). -/
structure Integrity where
  blocks        : Vector Block 16 := Vector.replicate 16 {}
  retireQueue   : List Nat := []
  reserve       : Nat := 0
  leakTimer     : Option Nat := none
  scrubPosition : Nat := 0
  deriving DecidableEq, Repr

/-- A port's pending flags (R143): `none` is clear, `some w` set with the stored payload `w` (absent for the two kinds that
carry none). -/
structure PendingFlags where
  peerLapsed         : Option (Option Word) := none
  peerFenced         : Option (Option Word) := none
  entryDamaged       : Option (Option Word) := none
  journalCompromised : Option (Option Word) := none
  deriving DecidableEq, Repr

/-- A raise of a notice for one port (R140). -/
structure Raise where
  port    : Port
  kind    : NoticeKind
  payload : Option Word
  deriving DecidableEq, Repr

/-- The notice unit (chapter 7). `held` is the model's own: while a grant that will produce a reply is under way, the raises
it has made so far whose frames or flags wait for that reply (R135, log 11). -/
structure Notices where
  flags       : PerPort PendingFlags := ⟨{}, {}⟩
  serials     : PerPort Byte := ⟨0#8, 0#8⟩
  repeatTimer : Option Nat := none
  held        : Option (List Raise) := none
  deriving DecidableEq, Repr

/-- The settings table (R180). -/
structure Settings where
  lapsePeriodA    : Nat := 50
  lapsePeriodB    : Nat := 50
  drainLimit      : Nat := 20
  noticeRepeat    : Nat := 10
  quotaA          : Nat := 768
  quotaB          : Nat := 768
  lowWater        : Nat := 64
  bucketThreshold : Nat := 8
  leakPeriod      : Nat := 3600
  scrubPace       : Nat := 1000
  fencePeerEnable : Nat := 1
  alertEnable     : BitVec 5 := 0b11111#5
  deriving DecidableEq, Repr

/-- The target states of the service port (R174). -/
inductive TargetState where
  | idle
  | receiving
  | busy
  | sending
  deriving DecidableEq, Repr

/-- The status codes of service results (R177, Table 11-7). -/
inductive ServiceStatus where
  | ok
  | already
  | range
  | limit
  | notReady
  | badFormat
  | unknown
  | noResult
  deriving DecidableEq, Repr

/-- A service result (R177). -/
structure ServiceResult where
  status : ServiceStatus
  data   : List Byte := []
  deriving DecidableEq, Repr

/-- The service port (chapter 9). `sent` is the number of bytes a read transaction has sent; `inProgress` is an accepted
request that waits for its grant. -/
structure ServicePort where
  target     : TargetState := .idle
  address    : BitVec 7 := Config.serviceBase
  collection : List Byte := []
  overlong   : Bool := false
  sent       : Nat := 0
  inProgress : Option GrantRequest := none
  result     : Option ServiceResult := none
  settings   : Settings := {}
  deriving DecidableEq, Repr

/-- The fault classes (R188). -/
inductive FaultClass where
  | link
  | storeCorrected
  | storeLost
  | session
  | capacity
  deriving DecidableEq, Repr

/-- The fault kinds (R188). -/
inductive FaultKind where
  | crc
  | malformed
  | overrun
  | linkDown
  | bodyCorrected
  | keyCorrected
  | bodyLost
  | keyLost
  | lapse
  | fenceByLapse
  | fenceByPeer
  | fenceByService
  | drainExpired
  | journalFull
  | quota
  | retireLimit
  deriving DecidableEq, Repr

/-- A first record (R189). -/
structure FaultRecord where
  kind   : FaultKind
  port   : Option Port := none
  slot   : Option Nat := none
  block  : Option Nat := none
  key    : Option RegionKey := none
  uptime : Uptime := 0#48
  deriving DecidableEq, Repr

/-- A class record (R188): the first record, if held, and the later-kinds set, in which bit n - 1 stands for the class's
kind n (Table 11-6). -/
structure ClassRecord where
  first : Option FaultRecord := none
  later : BitVec 5 := 0#5
  deriving DecidableEq, Repr

/-- The fault capture unit (chapter 10), with the alert line: `alert` is true while ALERT_N is asserted (driven low, R204). -/
structure Faults where
  link           : ClassRecord := {}
  storeCorrected : ClassRecord := {}
  storeLost      : ClassRecord := {}
  session        : ClassRecord := {}
  capacity       : ClassRecord := {}
  alert          : Bool := false
  deriving DecidableEq, Repr

/-- The causes of a reset (R136). -/
inductive ResetCause where
  | powerOn
  | warmPin
  | warmService
  | clearing
  deriving DecidableEq, Repr

/-- Reset control (R138, R139). -/
structure ResetControl where
  cause       : ResetCause := .powerOn
  resetUptime : Uptime := 0#48
  uptime      : Uptime := 0#48
  deriving DecidableEq, Repr

/-- The state of the part. `pending` is the queue of commands that wait; `freeCount` counts power-on resets and picks the
free value of log 5. -/
structure State where
  links     : PerPort Link := ⟨{}, {}⟩
  sessions  : PerPort Session := ⟨{}, {}⟩
  arbiter   : Arbiter := {}
  journal   : Journal := {}
  engine    : Engine := {}
  sweeper   : Sweeper := {}
  integrity : Integrity := {}
  notices   : Notices := {}
  service   : ServicePort := {}
  faults    : Faults := {}
  resetCtl  : ResetControl := {}
  freeCount : Nat := 0
  pending   : List Instr := []
  deriving DecidableEq, Repr

/-- The reasons a step can stop with a fault: none. The spec gives every command an effect or, where its event cannot occur,
none (log 1), so this type has no constructor and no step ends in it. -/
inductive Fault where
  deriving DecidableEq, Repr

/-- The reasons a step can be refused. -/
inductive Refusal where
  /-- Raised by `exec` alone, for a command that has no meaning yet (no arm raises it now). Safe: the model stops. -/
  | notModelled (mnemonic : String)
  deriving DecidableEq, Repr

/-- The part right after a power-on reset (R21, R74, R84, R121, R124, R137, R149, R172, R180, R186, R195) with the address
pins at `pins`; nothing of the state before it remains but the model's own two fields. -/
def State.poweredOn (pins : BitVec 2) (freeCount : Nat) (pending : List Instr) : State :=
  { service := { address := Config.serviceBase + pins.setWidth 7 }
    freeCount := freeCount
    pending := pending }

/-- The machine right after reset: a power-on reset with both address pins low (log 9) and no command waiting. -/
def State.reset : State := State.poweredOn 0#2 0 []

end Sys2Proof.Machine
end

