-- ==== Sys2Proof/Machine/Store.lean ====
section
/-! DEFINITION. Slot-keyed tables (the slot store and the index) and the outcomes of a read of stored contents. -/

namespace Sys2Proof

open Machine

/-- The canonical form of a slot-keyed table: slot numbers strictly rising. A Bool. -/
def SlotMap.wf {α : Type} : SlotMap α → Bool
  | [] => true
  | [_] => true
  | x :: y :: rest => decide (x.1 < y.1) && SlotMap.wf (y :: rest)

/-- The value listed for a slot. -/
def SlotMap.find {α : Type} (n : Nat) : SlotMap α → Option α
  | [] => none
  | (m, v) :: rest => if n = m then some v else SlotMap.find n rest

/-- The table with `v` listed for slot `n`. -/
def SlotMap.insert {α : Type} (n : Nat) (v : α) : SlotMap α → SlotMap α
  | [] => [(n, v)]
  | (m, w) :: rest =>
    if n < m then (n, v) :: (m, w) :: rest
    else if n = m then (n, v) :: rest
    else (m, w) :: SlotMap.insert n v rest

/-- The table with nothing listed for slot `n`. -/
def SlotMap.erase {α : Type} (n : Nat) : SlotMap α → SlotMap α
  | [] => []
  | (m, w) :: rest => if n = m then rest else (m, w) :: SlotMap.erase n rest

/-- The block of a slot (R1). -/
def blockOf (slot : Nat) : Nat := slot / Config.slotsPerBlock

/-- The entry's fields in a body, if it holds an entry (R3). -/
def BodyContent.fields : BodyContent → Option EntryBody
  | .freeBody => none
  | .entry e => some e

/-- Three copies of one value: what a write of the key store leaves (R2). -/
def KeyCopies.all (v : KeyValue) : KeyCopies := ⟨v, v, v⟩

/-- A slot that a free write has made (R5): the free marker and the free body, with a valid code. -/
def freeSlot : StoredSlot := { keys := KeyCopies.all .freeMarker, body := .freeBody, ecc := .clean }

/-- A slot that an entry write has made (R5). -/
def entrySlot (key : RegionKey) (e : EntryBody) : StoredSlot :=
  { keys := KeyCopies.all (.key key), body := .entry e, ecc := .clean }

/-- The storage as a read finds it (log 4). -/
def SlotWear.onto (w : SlotWear) (s : StoredSlot) : StoredSlot :=
  { s with keys := w.keys.getD s.keys, ecc := w.ecc.getD s.ecc }

/-- The value two or three copies share, if any (R2). -/
def KeyCopies.majority (k : KeyCopies) : Option KeyValue :=
  if k.c0 = k.c1 then some k.c0
  else if k.c0 = k.c2 then some k.c0
  else if k.c1 = k.c2 then some k.c1
  else none

/-- The vote on the copies of a key store against the expected value (R2). -/
def KeyCopies.vote (k : KeyCopies) (expected : KeyValue) : VoteOutcome :=
  match k.majority with
  | none => .split
  | some v =>
    if v = expected then (if k.c0 = k.c1 ∧ k.c1 = k.c2 then .agree else .oneOff)
    else .mismatch

/-- SPLIT and MISMATCH are treated alike (R2): the vote has lost the key. -/
def VoteOutcome.lost : VoteOutcome → Bool
  | .split => true
  | .mismatch => true
  | .agree => false
  | .oneOff => false

/-- The vote and ECC outcomes of one slot read (R4, step 1). -/
structure ReadOutcome where
  vote : VoteOutcome
  ecc  : EccOutcome
  deriving DecidableEq, Repr

/-- The hold of one port in an entry. -/
def EntryBody.hold (e : EntryBody) : Port → Option Held
  | .a => e.holdA
  | .b => e.holdB

/-- The entry with one port's hold replaced. -/
def EntryBody.setHold (e : EntryBody) (p : Port) (h : Option Held) : EntryBody :=
  match p with
  | .a => { e with holdA := h }
  | .b => { e with holdB := h }

/-- A hold's count: 0 for an empty hold (R7). -/
def holdCount : Option Held → Nat
  | none => 0
  | some h => h.count

/-- The holder summary of an entry (R95). -/
def EntryBody.summary (e : EntryBody) : HolderSummary :=
  { holdA := e.holdA.map Held.epoch, holdB := e.holdB.map Held.epoch, adopter := e.adopter }

/-- The form of a damaged entry (R96). -/
def damagedBody : EntryBody :=
  { state := .orphan, holdA := none, holdB := none, lostHolder := false, damaged := true
    stamp := 0#64, note := [], adopter := none }

/-- A new entry, held once by `p` under `epoch` (R6). -/
def newBody (p : Port) (epoch : Epoch) (stamp : Stamp) (note : List Word) : EntryBody :=
  EntryBody.setHold
    { state := .opened, holdA := none, holdB := none, lostHolder := false, damaged := false
      stamp := stamp, note := note, adopter := none } p (some { count := 1, epoch := epoch })

/-- The place of an entry that joins the orphan list (R80): immediately before the first entry of greater stamp, else at the
tail. For stamp 0 that is immediately behind the stamp-0 entries, which stand at the head (R79). -/
def insertOrphan (o : Orphan) : List Orphan → List Orphan
  | [] => [o]
  | x :: rest => if o.stamp.toNat < x.stamp.toNat then o :: x :: rest else x :: insertOrphan o rest

end Sys2Proof
end

