-- ==== Sys2Proof/Machine/Operands.lean ====
section
/-! DEFINITION. Operand forms: the bytes and words of frames and service transactions, the CRC, the numeric codes of chapter
11, the requests a queued frame spells, and the judgement of a service write. -/

namespace Sys2Proof.Machine

/-! Byte order (R197, R201: most significant byte first) -/

/-- A number in `k` bytes, most significant first; what does not fit is dropped. -/
def bytesOf : Nat → Nat → List Byte
  | 0, _ => []
  | k + 1, n => BitVec.ofNat 8 (n / 256 ^ k) :: bytesOf k n

/-- A word from four byte fields, most significant first. -/
def word4 (b3 b2 b1 b0 : Byte) : Word :=
  BitVec.ofNat 32 (b3.toNat * 2 ^ 24 + b2.toNat * 2 ^ 16 + b1.toNat * 2 ^ 8 + b0.toNat)

/-- A word from a high and a low 16-bit field. -/
def word2 (hi lo : Nat) : Word :=
  BitVec.ofNat 32 (hi % 2 ^ 16 * 2 ^ 16 + lo % 2 ^ 16)

/-- A word that holds a number in its least significant bits. -/
def wordOf (n : Nat) : Word := BitVec.ofNat 32 n

/-- A stamp in two words, the more significant first (R197). -/
def stampWords (s : Stamp) : List Word := [s.extractLsb' 32 32, s.extractLsb' 0 32]

/-- A region key in two words (R198). -/
def keyWords (k : RegionKey) : List Word := [wordOf k.volume.toNat, k.region]

/-- Bit `i` of a byte or set, as a number. -/
def bitIf (b : Bool) (i : Nat) : Nat := if b then 2 ^ i else 0

/-! The CRC (R197) -/

/-- One shift of the remainder register. -/
def crcShift (r : Word) : Word := if r.msb then (r <<< 1) ^^^ 0x04C11DB7#32 else r <<< 1

/-- `n` shifts. -/
def crcShifts : Nat → Word → Word
  | 0, r => r
  | n + 1, r => crcShifts n (crcShift r)

/-- The register after one byte, its most significant bit first. -/
def crcByte (r : Word) (b : Byte) : Word := crcShifts 8 (r ^^^ (b.setWidth 32 <<< 24))

/-- The CRC-32 of a sequence of bytes. -/
def crc32 (bytes : List Byte) : Word := ~~~ (bytes.foldl crcByte 0xFFFFFFFF#32)

/-- The bytes of a sequence of words, in the order sent. -/
def wordBytes (ws : List Word) : List Byte := ws.flatMap fun w => bytesOf 4 w.toNat

/-- The CRC word of a frame whose header and payload words are `ws`. -/
def frameCrc (ws : List Word) : Word := crc32 (wordBytes ws)

/-! Receiving a request frame (R103, R196) -/

/-- What the framing and CRC tests make of a frame (R103). -/
inductive Received where
  | malformed
  | badCrc
  | good (r : Request)
  deriving DecidableEq, Repr

/-- The tests of R103, in their order: a full header and a CRC word, a payload length of 0..6 that equals the payload words
received; then the CRC. -/
def receiveFrame (words : List Word) : Received :=
  match words with
  | w0 :: w1 :: rest =>
    let len := (w1.extractLsb' 24 8).toNat
    if len ≤ Config.requestPayloadMax ∧ rest.length = len + 1 then
      let payload := rest.take len
      if rest.drop len = [frameCrc (w0 :: w1 :: payload)] then
        .good { kind := w0.extractLsb' 24 8, seq := w0.extractLsb' 16 8, epoch := w0.extractLsb' 0 16
                payload := payload }
      else .badCrc
    else .malformed
  | _ => .malformed

/-- The words of a request frame as a controller sends it (R196, R197). -/
def Request.words (r : Request) : List Word :=
  let ws := word2 (r.kind.toNat * 256 + r.seq.toNat) r.epoch.toNat :: word4 (BitVec.ofNat 8 r.payload.length) 0 0 0 :: r.payload
  ws ++ [frameCrc ws]

/-! Numeric codes (R199, R200) -/

/-- R199. -/
def SessionState.code : SessionState → Nat
  | .detached => 0 | .attached => 1 | .draining => 2 | .lapsed => 3 | .fenced => 4
/-- R199. -/
def EngineState.code : EngineState → Nat
  | .initializing => 0 | .ready => 1 | .frozen => 2
/-- R199. -/
def entryStateCode : EntryState → Nat
  | .opened => 1 | .orphan => 2 | .adopted => 3
/-- R199. -/
def portCode : Port → Nat
  | .a => 0 | .b => 1
/-- R199. -/
def LinkState.code : LinkState → Nat
  | .down => 0 | .training => 1 | .up => 2
/-- R199. -/
def BlockState.code : BlockState → Nat
  | .inService => 0 | .closing => 1 | .moving => 2 | .retired => 3
/-- R199. -/
def voteCode : VoteOutcome → Nat
  | .agree => 0 | .oneOff => 1 | .split => 2 | .mismatch => 3
/-- R199. -/
def eccCode : EccOutcome → Nat
  | .clean => 0 | .corrected => 1 | .uncorrectable => 2

/-- Table 11-4. -/
def ReplyStatus.code : ReplyStatus → Byte
  | .ok => 0x00 | .opened => 0x01 | .joined => 0x02 | .closed => 0x03 | .released => 0x04 | .orphaned => 0x05
  | .noEntry => 0x06 | .alreadyFenced => 0x07 | .badRequest => 0x40 | .notReady => 0x41 | .notAttached => 0x42
  | .staleEpoch => 0x43 | .fenced => 0x44 | .draining => 0x45 | .frozen => 0x46 | .journalFull => 0x47 | .quota => 0x48
  | .holdLimit => 0x49 | .inRecovery => 0x4A | .notHeld => 0x4B | .notFound => 0x4C | .notAdopter => 0x4D
  | .markSet => 0x4E | .fenceOff => 0x4F

/-- The replies that are stored in the reply cache: all but four kinds (R112). -/
def ReplyStatus.cached : ReplyStatus → Bool
  | .notReady => false | .fenced => false | .notAttached => false | .staleEpoch => false
  | .ok => true | .opened => true | .joined => true | .closed => true | .released => true | .orphaned => true
  | .noEntry => true | .alreadyFenced => true | .badRequest => true | .draining => true | .frozen => true
  | .journalFull => true | .quota => true | .holdLimit => true | .inRecovery => true | .notHeld => true
  | .notFound => true | .notAdopter => true | .markSet => true | .fenceOff => true

/-- Table 11-5. -/
def NoticeKind.code : NoticeKind → Byte
  | .peerAttached => 0x01 | .peerDetached => 0x02 | .peerLapsed => 0x03 | .peerFenced => 0x04 | .orphansPresent => 0x05
  | .journalLow => 0x06 | .entryDamaged => 0x07 | .journalCompromised => 0x08 | .blockRetired => 0x09
  | .freezeChanged => 0x0A

/-- The notice kind of a code, if it is one of the ten (R145). -/
def NoticeKind.ofCode (w : Word) : Option NoticeKind :=
  match w.toNat with
  | 1 => some .peerAttached | 2 => some .peerDetached | 3 => some .peerLapsed | 4 => some .peerFenced
  | 5 => some .orphansPresent | 6 => some .journalLow | 7 => some .entryDamaged | 8 => some .journalCompromised
  | 9 => some .blockRetired | 10 => some .freezeChanged
  | _ => none

/-- The four repeating kinds (R140). -/
def NoticeKind.repeating : NoticeKind → Bool
  | .peerLapsed => true | .peerFenced => true | .entryDamaged => true | .journalCompromised => true
  | .peerAttached => false | .peerDetached => false | .orphansPresent => false | .journalLow => false
  | .blockRetired => false | .freezeChanged => false

/-- The causes PEER_FENCED carries (Table 11-5). -/
def fenceCauseLapse : Word := 1
/-- Table 11-5. -/
def fenceCausePeer : Word := 2
/-- Table 11-5. -/
def fenceCauseService : Word := 3

/-- The class of a fault kind (R188). -/
def FaultKind.faultClass : FaultKind → FaultClass
  | .crc => .link | .malformed => .link | .overrun => .link | .linkDown => .link
  | .bodyCorrected => .storeCorrected | .keyCorrected => .storeCorrected
  | .bodyLost => .storeLost | .keyLost => .storeLost
  | .lapse => .session | .fenceByLapse => .session | .fenceByPeer => .session | .fenceByService => .session
  | .drainExpired => .session
  | .journalFull => .capacity | .quota => .capacity | .retireLimit => .capacity

/-- The code of a kind within its class (Table 11-6). -/
def FaultKind.code : FaultKind → Nat
  | .crc => 1 | .malformed => 2 | .overrun => 3 | .linkDown => 4
  | .bodyCorrected => 1 | .keyCorrected => 2
  | .bodyLost => 1 | .keyLost => 2
  | .lapse => 1 | .fenceByLapse => 2 | .fenceByPeer => 3 | .fenceByService => 4 | .drainExpired => 5
  | .journalFull => 1 | .quota => 2 | .retireLimit => 3

/-- The kind's bit in a later-kinds set (Table 11-6). -/
def FaultKind.bit (k : FaultKind) : BitVec 5 := 1#5 <<< (k.code - 1)

/-- A class's bit in a class set (R199). -/
def FaultClass.bit : FaultClass → Nat
  | .link => 0 | .storeCorrected => 1 | .storeLost => 2 | .session => 3 | .capacity => 4

/-- Table 11-9, RESET_CAUSE. -/
def ResetCause.code : ResetCause → Nat
  | .powerOn => 1 | .warmPin => 2 | .warmService => 3 | .clearing => 4

/-- Table 11-7. -/
def ServiceStatus.code : ServiceStatus → Byte
  | .ok => 0x00 | .already => 0x01 | .range => 0x02 | .limit => 0x03 | .notReady => 0x04 | .badFormat => 0x05
  | .unknown => 0x06 | .noResult => 0x07

/-! Frames sent (R196 to R198) -/

/-- The header and payload words of a frame (R196). -/
def OutFrame.content : OutFrame → List Word
  | .reply r epoch replay =>
    word2 (r.kind.toNat * 256 + r.seq.toNat) epoch.toNat ::
      word4 (BitVec.ofNat 8 r.payload.length) r.status.code (BitVec.ofNat 8 (bitIf replay 0)) 0 :: r.payload
  | .notice kind epoch serial payload =>
    word2 (0xE0 * 256 + kind.code.toNat) epoch.toNat ::
      word4 (BitVec.ofNat 8 payload.toList.length) serial 0 0 :: payload.toList

/-- The words of a frame on the link, the CRC word last (R197). -/
def OutFrame.words (f : OutFrame) : List Word := f.content ++ [frameCrc f.content]

/-- The kind of the reply to a request kind (R133, R196): plus 0x80, and 0x80 for a received kind of 0x80 or above. For a received kind
of 0x60 the sum is 0xE0, which R133 also says that no such reply carries; that the sum stands is the model's choice (log 34). -/
def replyKind (k : Byte) : Byte := if k.toNat < 0x80 then k + 0x80 else 0x80

/-! The requests a queued frame spells (R133, R200) -/

/-- A request that has, or has not, passed the kind and length check (R133). -/
inductive PeerRequest where
  | bad
  | attach (incarnation : Word)
  | detachGraceful
  | detachAbrupt
  | pulse
  | openIntent (key : RegionKey) (note : List Word)
  | closeIntent (key : RegionKey)
  | query (key : RegionKey)
  | adopt
  | resolve (key : RegionKey)
  | clearMark
  | fencePeer
  | ackNotice (kind : NoticeKind)
  | status
  deriving DecidableEq, Repr

/-- The key in a volume word and a region word, if the volume is 0..255 (R27). -/
def keyOf (volume region : Word) : Option RegionKey :=
  if volume.toNat < 256 then some ⟨volume.setWidth 8, region⟩ else none

/-- The request a payload of exactly a key spells, `bad` for any other payload. -/
def keyRequest (f : RegionKey → PeerRequest) : List Word → PeerRequest
  | [v, r] => match keyOf v r with
    | some k => f k
    | none => .bad
  | _ => .bad

/-- The request an empty payload spells. -/
def bareRequest (r : PeerRequest) : List Word → PeerRequest
  | [] => r
  | _ => .bad

/-- DETACH: one word, mode 1 GRACEFUL or 2 ABRUPT (R62, Table 11-1). -/
def detachRequest : List Word → PeerRequest
  | [m] => if m = 1#32 then .detachGraceful else if m = 2#32 then .detachAbrupt else .bad
  | _ => .bad

/-- OPEN: the key and a note of 0, 1 or 2 words (R27). -/
def openRequest : List Word → PeerRequest
  | v :: r :: note =>
    if note.length ≤ 2 then
      match keyOf v r with
      | some k => .openIntent k note
      | none => .bad
    else .bad
  | _ => .bad

/-- ATTACH: one word, the incarnation (R133). -/
def attachRequest : List Word → PeerRequest
  | [i] => .attach i
  | _ => .bad

/-- ACK_NOTICE: one word, one of the ten notice codes (R133, R145). -/
def ackRequest : List Word → PeerRequest
  | [c] => match NoticeKind.ofCode c with
    | some k => .ackNotice k
    | none => .bad
  | _ => .bad

/-- The kind and length check (R133) with the kind codes of Table 11-3. -/
def Request.classify (r : Request) : PeerRequest :=
  match r.kind.toNat with
  | 0x01 => attachRequest r.payload
  | 0x02 => detachRequest r.payload
  | 0x03 => bareRequest .pulse r.payload
  | 0x10 => openRequest r.payload
  | 0x11 => keyRequest .closeIntent r.payload
  | 0x12 => keyRequest .query r.payload
  | 0x20 => bareRequest .adopt r.payload
  | 0x21 => keyRequest .resolve r.payload
  | 0x30 => bareRequest .clearMark r.payload
  | 0x31 => bareRequest .fencePeer r.payload
  | 0x40 => ackRequest r.payload
  | 0x41 => bareRequest .status r.payload
  | _ => .bad

/-! Settings (R180, Table 11-8) -/

/-- The twelve settings. -/
inductive SettingName where
  | lapsePeriodA
  | lapsePeriodB
  | drainLimit
  | noticeRepeat
  | quotaA
  | quotaB
  | lowWater
  | bucketThreshold
  | leakPeriod
  | scrubPace
  | fencePeerEnable
  | alertEnable
  deriving DecidableEq, Repr

/-- Table 11-8. -/
def SettingName.ofNumber (n : Byte) : Option SettingName :=
  match n.toNat with
  | 1 => some .lapsePeriodA | 2 => some .lapsePeriodB | 3 => some .drainLimit | 4 => some .noticeRepeat
  | 5 => some .quotaA | 6 => some .quotaB | 7 => some .lowWater | 8 => some .bucketThreshold
  | 9 => some .leakPeriod | 10 => some .scrubPace | 11 => some .fencePeerEnable | 12 => some .alertEnable
  | _ => none

/-- The least and the largest value of a setting (R180); a class set is read as the number its bits spell. -/
def SettingName.bounds : SettingName → Nat × Nat
  | .lapsePeriodA => (1, 255) | .lapsePeriodB => (1, 255) | .drainLimit => (1, 255) | .noticeRepeat => (1, 255)
  | .quotaA => (1, 1024) | .quotaB => (1, 1024) | .lowWater => (0, 1023) | .bucketThreshold => (1, 15)
  | .leakPeriod => (1, 65535) | .scrubPace => (0, 65535) | .fencePeerEnable => (0, 1) | .alertEnable => (0, 31)

/-- The value of a setting. -/
def Settings.get (s : Settings) : SettingName → Nat
  | .lapsePeriodA => s.lapsePeriodA | .lapsePeriodB => s.lapsePeriodB | .drainLimit => s.drainLimit
  | .noticeRepeat => s.noticeRepeat | .quotaA => s.quotaA | .quotaB => s.quotaB | .lowWater => s.lowWater
  | .bucketThreshold => s.bucketThreshold | .leakPeriod => s.leakPeriod | .scrubPace => s.scrubPace
  | .fencePeerEnable => s.fencePeerEnable | .alertEnable => s.alertEnable.toNat

/-- The table with one setting changed. -/
def Settings.put (s : Settings) (n : SettingName) (v : Nat) : Settings :=
  match n with
  | .lapsePeriodA => { s with lapsePeriodA := v } | .lapsePeriodB => { s with lapsePeriodB := v }
  | .drainLimit => { s with drainLimit := v } | .noticeRepeat => { s with noticeRepeat := v }
  | .quotaA => { s with quotaA := v } | .quotaB => { s with quotaB := v }
  | .lowWater => { s with lowWater := v } | .bucketThreshold => { s with bucketThreshold := v }
  | .leakPeriod => { s with leakPeriod := v } | .scrubPace => { s with scrubPace := v }
  | .fencePeerEnable => { s with fencePeerEnable := v } | .alertEnable => { s with alertEnable := BitVec.ofNat 5 v }

/-- A port's lapse period in milliseconds (R56). -/
def Settings.lapsePeriod (s : Settings) : Port → Nat
  | .a => s.lapsePeriodA * 10
  | .b => s.lapsePeriodB * 10

/-- A port's quota (R26). -/
def Settings.quota (s : Settings) : Port → Nat
  | .a => s.quotaA
  | .b => s.quotaB

/-! Service writes (R175, R176, R201) -/

/-- The parameter length of each service request code (R179, Table 11-7). -/
def paramLength (code : Byte) : Option Nat :=
  match code.toNat with
  | 0x01 => some 1 | 0x02 => some 3 | 0x03 => some 1 | 0x04 => some 2 | 0x05 => some 0
  | 0x10 => some 1 | 0x11 => some 1 | 0x12 => some 1
  | 0x20 => some 0 | 0x21 => some 0 | 0x22 => some 1
  | 0x30 => some 1 | 0x31 => some 1
  | _ => none

/-- What becomes of a write at its STOP (R175, R176). -/
inductive WriteJudgement where
  | ignored
  | badFormat
  | unknown
  | accepted
  deriving DecidableEq, Repr

/-- The judgement of a byte collection at its STOP, in the order of R176. -/
def judgeWrite (collection : List Byte) (overlong : Bool) : WriteJudgement :=
  match collection with
  | [] => .ignored
  | [_] => .badFormat
  | code :: count :: params =>
    if overlong ∨ params.length ≠ count.toNat then .badFormat
    else match paramLength code with
      | none => .unknown
      | some n => if count.toNat = n then .accepted else .badFormat

/-- The bytes of a well-formed write of a request. -/
def requestBytes (code : Byte) (params : List Byte) : List Byte := code :: BitVec.ofNat 8 params.length :: params

/-- The port a port parameter names (R179, R199). -/
def portOf (b : Byte) : Option Port :=
  match b.toNat with
  | 0 => some .a
  | 1 => some .b
  | _ => none

/-- The bytes of the result buffer that a read transaction sends (R177): the byte count, the status, the data; for an empty buffer
1 and NO_RESULT. -/
def ServicePort.readBytes (s : ServicePort) : List Byte :=
  match s.result with
  | none => [1#8, ServiceStatus.noResult.code]
  | some r => BitVec.ofNat 8 (1 + r.data.length) :: r.status.code :: r.data

end Sys2Proof.Machine

namespace Sys2Proof

open Machine

/-- The request code of a request that needs a grant (Table 11-7). -/
def GrantRequest.code : GrantRequest → Byte
  | .readSlot _ => 0x04
  | .freeze => 0x20
  | .thaw => 0x21
  | .retireBlock _ => 0x22

/-- Its parameter bytes (Table 11-7). -/
def GrantRequest.params : GrantRequest → List Byte
  | .readSlot n => bytesOf 2 n.toNat
  | .freeze => []
  | .thaw => []
  | .retireBlock b => [b]

end Sys2Proof
end

