-- ==== Sys2Proof/Machine/Access.lean ====
section
/-! DEFINITION. Reading and updating one block of the state at a time. -/

namespace Sys2Proof.Machine

/-- A port's link. -/
def State.link (s : State) (p : Port) : Link := s.links.get p
/-- A port's session record. -/
def State.session (s : State) (p : Port) : Session := s.sessions.get p
/-- The settings table. -/
def State.settings (s : State) : Settings := s.service.settings

/-- The state with a port's link replaced. -/
def State.setLink (s : State) (p : Port) (l : Link) : State := { s with links := s.links.set p l }
/-- The state with a port's session record replaced. -/
def State.setSession (s : State) (p : Port) (x : Session) : State := { s with sessions := s.sessions.set p x }
/-- The state with the arbiter replaced. -/
def State.setArbiter (s : State) (x : Arbiter) : State := { s with arbiter := x }
/-- The state with the journal replaced. -/
def State.setJournal (s : State) (x : Journal) : State := { s with journal := x }
/-- The state with the engine's own state replaced. -/
def State.setEngine (s : State) (x : Engine) : State := { s with engine := x }
/-- The state with the sweeper replaced. -/
def State.setSweeper (s : State) (x : Sweeper) : State := { s with sweeper := x }
/-- The state with the store integrity unit replaced. -/
def State.setIntegrity (s : State) (x : Integrity) : State := { s with integrity := x }
/-- The state with the notice unit replaced. -/
def State.setNotices (s : State) (x : Notices) : State := { s with notices := x }
/-- The state with the service port replaced. -/
def State.setService (s : State) (x : ServicePort) : State := { s with service := x }
/-- The state with the fault capture unit replaced. -/
def State.setFaults (s : State) (x : Faults) : State := { s with faults := x }
/-- The state with reset control replaced. -/
def State.setResetCtl (s : State) (x : ResetControl) : State := { s with resetCtl := x }

/-- A port's pending flag of a kind: clear for a once-only kind, which has none (R143). -/
def PendingFlags.get (f : PendingFlags) : NoticeKind → Option (Option Word)
  | .peerLapsed => f.peerLapsed
  | .peerFenced => f.peerFenced
  | .entryDamaged => f.entryDamaged
  | .journalCompromised => f.journalCompromised
  | .peerAttached => none
  | .peerDetached => none
  | .orphansPresent => none
  | .journalLow => none
  | .blockRetired => none
  | .freezeChanged => none

/-- The flags with the flag of one repeating kind replaced. -/
def PendingFlags.put (f : PendingFlags) (k : NoticeKind) (v : Option (Option Word)) : PendingFlags :=
  match k with
  | .peerLapsed => { f with peerLapsed := v }
  | .peerFenced => { f with peerFenced := v }
  | .entryDamaged => { f with entryDamaged := v }
  | .journalCompromised => { f with journalCompromised := v }
  | .peerAttached => f
  | .peerDetached => f
  | .orphansPresent => f
  | .journalLow => f
  | .blockRetired => f
  | .freezeChanged => f

/-- A class record. -/
def Faults.get (f : Faults) : FaultClass → ClassRecord
  | .link => f.link
  | .storeCorrected => f.storeCorrected
  | .storeLost => f.storeLost
  | .session => f.session
  | .capacity => f.capacity

/-- The unit with one class record replaced. -/
def Faults.put (f : Faults) (c : FaultClass) (r : ClassRecord) : Faults :=
  match c with
  | .link => { f with link := r }
  | .storeCorrected => { f with storeCorrected := r }
  | .storeLost => { f with storeLost := r }
  | .session => { f with session := r }
  | .capacity => { f with capacity := r }

/-- The record of a block; an IN_SERVICE record for a number that is no block. -/
def Integrity.block (i : Integrity) (b : Nat) : Block := i.blocks[b]?.getD {}

/-- The unit with a block's record replaced. -/
def Integrity.setBlock (i : Integrity) (b : Nat) (x : Block) : Integrity := { i with blocks := i.blocks.setIfInBounds b x }

/-- The record of a block. -/
def State.block (s : State) (b : Nat) : Block := s.integrity.block b

/-- What a slot's storage holds: what is listed, else the free value of log 5. -/
def State.stored (s : State) (n : Nat) : StoredSlot :=
  (SlotMap.find n s.journal.store).getD (Config.unwrittenSlot s.freeCount n)

/-- The association that names a slot, if the slot is live. -/
def State.assoc (s : State) (n : Nat) : Option Association := SlotMap.find n s.journal.index

/-- The key of the entry in a slot, if the slot is live (R1, R12). -/
def State.keyAt (s : State) (n : Nat) : Option RegionKey := (s.assoc n).map Association.key

/-- The slot that a table of associations names for a key. -/
def findKey (k : RegionKey) : SlotMap Association → Option Nat
  | [] => none
  | (n, x) :: rest => if x.key = k then some n else findKey k rest

/-- A lookup of the index (R12): the slot of the live entry with a key, or NONE. It reads no slot. -/
def State.lookup (s : State) (k : RegionKey) : Option Nat := findKey k s.journal.index

/-- The conditions of a slot (R1). -/
inductive SlotCondition where
  | live
  | pooled
  | withdrawn
  deriving DecidableEq, Repr

/-- R199. -/
def SlotCondition.code : SlotCondition → Nat
  | .live => 1 | .pooled => 2 | .withdrawn => 3

/-- A slot's condition (R1): live when the index names it, pooled when it stands in the free pool, else withdrawn. -/
def State.condition (s : State) (n : Nat) : SlotCondition :=
  if (s.assoc n).isSome then .live else if s.journal.pool.contains n then .pooled else .withdrawn

/-- The entry in a live slot, as the body was last written (R3). -/
def State.entryAt (s : State) (n : Nat) : Option EntryBody :=
  (s.assoc n).bind fun _ => (s.stored n).body.fields

/-- The value the copies of a slot's key store should hold (R2). -/
def State.expectedKey (s : State) (n : Nat) : KeyValue :=
  match s.keyAt n with
  | some k => .key k
  | none => .freeMarker

/-- The pooled free count (R16). -/
def State.pooled (s : State) : Nat := s.journal.pool.length
/-- The orphan count (R82). -/
def State.orphanCount (s : State) : Nat := s.journal.orphans.length
/-- The number of live entries. -/
def State.liveCount (s : State) : Nat := s.journal.index.length
/-- The number of live entries in a block (R166). -/
def State.liveInBlock (s : State) (b : Nat) : Nat := s.journal.index.countP fun x => blockOf x.1 = b
/-- The lowest-numbered live slot of a block (R167). -/
def State.lowestLive (s : State) (b : Nat) : Option Nat := (s.journal.index.find? fun x => blockOf x.1 = b).map Prod.fst

end Sys2Proof.Machine
end

