-- ==== Sys2Proof/Machine/Flags.lean ====
section
/-! DEFINITION. Conditions and indicators computed from the state: live holds, attached ports, the pending-notice set, the
alert line, the conditions of the arbiter, the retirement count. -/

namespace Sys2Proof.Machine

/-- A session is open while it is ATTACHED or DRAINING: its holds are live (R8) and it may be sent notices (R141). -/
def SessionState.isOpen : SessionState → Bool
  | .attached => true
  | .draining => true
  | .detached => false
  | .lapsed => false
  | .fenced => false

/-- Whether a port's session is open. -/
def State.isOpen (s : State) (p : Port) : Bool := (s.session p).state.isOpen

/-- Whether an epoch recorded for a port makes a hold or an adoption live (R8). -/
def State.epochLive (s : State) (p : Port) (e : Epoch) : Bool := decide (e = (s.session p).epoch) && s.isOpen p

/-- Whether a hold recorded for a port is dead (R8): not empty and not live. -/
def State.holdDead (s : State) (p : Port) (h : Option Held) : Bool :=
  match h with
  | none => false
  | some x => !s.epochLive p x.epoch

/-- Whether the epoch of a summary entry is live. -/
def State.summaryLive (s : State) (p : Port) (e : Option Epoch) : Bool :=
  match e with
  | none => false
  | some x => s.epochLive p x

/-- Whether an adopter is live (R8). -/
def State.adopterLive (s : State) (a : Adopter) : Bool := s.epochLive a.port a.epoch

/-- The epoch of a port's next session (R50): 65535 is followed by 1. -/
def nextEpoch (e : Epoch) : Epoch := if e = 0xFFFF#16 then 1#16 else e + 1#16

/-- The generation of the next journal (R19): 65535 is followed by 1. -/
def nextGeneration (g : Half) : Half := if g = 0xFFFF#16 then 1#16 else g + 1#16

/-- A port's pending-notice set as a number (R199). -/
def PendingFlags.setCode (f : PendingFlags) : Nat :=
  bitIf f.peerLapsed.isSome 0 + bitIf f.peerFenced.isSome 1 + bitIf f.entryDamaged.isSome 2 +
    bitIf f.journalCompromised.isSome 3

/-- Whether any pending flag of a port is set. -/
def PendingFlags.any (f : PendingFlags) : Bool :=
  f.peerLapsed.isSome || f.peerFenced.isSome || f.entryDamaged.isSome || f.journalCompromised.isSome

/-- The condition under which the repeat timer runs (R144). -/
def State.repeatCondition (s : State) : Bool :=
  (s.isOpen .a && (s.notices.flags.get .a).any) || (s.isOpen .b && (s.notices.flags.get .b).any)

/-- Whether a class that ALERT_ENABLE names holds a first record (R193). -/
def alertCondition (f : Faults) (enable : BitVec 5) : Bool :=
  (enable.getLsbD 0 && f.link.first.isSome) || (enable.getLsbD 1 && f.storeCorrected.first.isSome) ||
    (enable.getLsbD 2 && f.storeLost.first.isSome) || (enable.getLsbD 3 && f.session.first.isSome) ||
    (enable.getLsbD 4 && f.capacity.first.isSome)

/-- A block is in progress while it is CLOSING or MOVING (R152). -/
def BlockState.inProgress : BlockState → Bool
  | .closing => true
  | .moving => true
  | .inService => false
  | .retired => false

/-- The block in progress, if any (R152). -/
def State.inProgress (s : State) : Option Nat := (List.range 16).find? fun b => (s.block b).state.inProgress

/-- The number of RETIRED blocks. -/
def State.retiredCount (s : State) : Nat := (List.range 16).countP fun b => (s.block b).state = .retired

/-- The retirement count (R163). -/
def State.retirementCount (s : State) : Nat :=
  s.retiredCount + s.inProgress.toList.length + s.integrity.retireQueue.length

/-- Whether a block is RETIRED. -/
def State.blockRetired (s : State) (b : Nat) : Bool := decide ((s.block b).state = .retired)

/-- The engine runs requests, the sweeper and the scrubber: READY or FROZEN (R123). -/
def State.running (s : State) : Bool := decide (s.engine.state ≠ .initializing)

/-- Whether a rotation place has work (R130). The sweeper has while the slot at its position is live, or while the request it
made when that slot was live still stands (R86, log 18). -/
def State.hasWork (s : State) : Place → Bool
  | .portA => !(s.link .a).requests.isEmpty
  | .portB => !(s.link .b).requests.isEmpty
  | .service => s.service.inProgress.isSome
  | .sweeper => s.sweeper.pending && s.running && (decide (s.condition s.sweeper.position = .live) || s.arbiter.sweepRequest)
  | .relocator =>
    decide (s.engine.state = .ready) &&
      match s.inProgress with
      | some b => decide ((s.block b).state = .moving) && (s.lowestLive b).isSome
      | none => false
  | .initialiser =>
    decide (s.engine.state = .initializing) && decide (s.engine.initPos < Config.slotCount) &&
      !s.blockRetired (blockOf s.engine.initPos)

/-- The six places in the order in which the rotation tries them when `p` was granted last (R130): `p` itself last. -/
def Place.rotation : Place → List Place
  | .portA => [.portB, .service, .sweeper, .relocator, .initialiser, .portA]
  | .portB => [.service, .sweeper, .relocator, .initialiser, .portA, .portB]
  | .service => [.sweeper, .relocator, .initialiser, .portA, .portB, .service]
  | .sweeper => [.relocator, .initialiser, .portA, .portB, .service, .sweeper]
  | .relocator => [.initialiser, .portA, .portB, .service, .sweeper, .relocator]
  | .initialiser => [.portA, .portB, .service, .sweeper, .relocator, .initialiser]

/-- The rotation place of a port's request queue (R130). -/
def portPlace : Port → Place
  | .a => .portA
  | .b => .portB

/-- Whom a grant goes to. -/
inductive Grantee where
  | scrubber
  | place (p : Place)
  deriving DecidableEq, Repr

/-- The grant that the arbiter makes now, if any (R130, R131): a due scrub grant first, but not immediately after a scrub grant
while any place has work; else the first place after the pointer that has work. The scrubber takes no grant in INITIALIZING
(R123). -/
def State.nextGrant (s : State) : Option Grantee :=
  let rotation := s.arbiter.pointer.rotation.find? s.hasWork
  if s.arbiter.scrubDue && s.running && !(s.arbiter.lastWasScrub && rotation.isSome) then some .scrubber
  else rotation.map .place

/-- The head of the retire queue is due to enter CLOSING (R165): no block is in progress and the engine is READY. -/
def State.closingDue (s : State) : Bool :=
  decide (s.engine.state = .ready) && s.inProgress.isNone && !s.integrity.retireQueue.isEmpty

end Sys2Proof.Machine
end

