-- ==== Sys2Proof/Machine/Ops.lean ====
section
/-! DEFINITION. The shared operations: notices, fault capture, session ends, the free pool and the index, block retirement,
the slot read with conversion on touch. Every grant and event is built from them. -/

namespace Sys2Proof.Machine

/-! Outbound frames and notices -/

/-- Whether a port's outbound queue takes a frame now: the link is UP and fewer than 16 frames wait (R118, R119). -/
def State.accepts (s : State) (p : Port) : Bool :=
  decide ((s.link p).state = .up) && decide ((s.link p).outbound.length < Config.outboundDepth)

/-- A frame produced for a port joins the tail of its outbound queue, or is dropped (R117 to R119). -/
def State.enqueue (s : State) (p : Port) (f : OutFrame) : State :=
  if s.accepts p then s.setLink p { s.link p with outbound := (s.link p).outbound ++ [f] } else s

/-- The notice unit sends one frame to an attached port (R141, R147, R148): the frame takes the serial only if the outbound
queue accepts it. -/
def State.sendNotice (s : State) (p : Port) (k : NoticeKind) (payload : Option Word) : State :=
  if s.isOpen p && s.accepts p then
    let serial := s.notices.serials.get p
    (s.enqueue p (.notice k (s.session p).epoch serial payload)).setNotices
      { s.notices with serials := s.notices.serials.set p (serial + 1#8) }
  else s

/-- A port's pending flag of a kind set to `v`. -/
def State.setFlag (s : State) (p : Port) (k : NoticeKind) (v : Option (Option Word)) : State :=
  s.setNotices { s.notices with flags := s.notices.flags.set p ((s.notices.flags.get p).put k v) }

/-- What a raise does at the notice unit (R142, R143). -/
def State.takeRaise (s : State) (r : Raise) : State :=
  if r.kind.repeating then
    match (s.notices.flags.get r.port).get r.kind with
    | some _ => s
    | none => (s.setFlag r.port r.kind (some r.payload)).sendNotice r.port r.kind r.payload
  else s.sendNotice r.port r.kind r.payload

/-- A block raises a notice for a port (R140). While a reply is still to come it waits for that reply (R135, log 11); a once-only
kind raised for a port that is not attached is lost at the raise (R142). -/
def State.raise (s : State) (p : Port) (k : NoticeKind) (payload : Option Word) : State :=
  match s.notices.held with
  | some l =>
    if k.repeating || s.isOpen p then s.setNotices { s.notices with held := some (l ++ [⟨p, k, payload⟩]) } else s
  | none => s.takeRaise ⟨p, k, payload⟩

/-- A raise for both ports, taken at each separately (R140); A before B, where R140 gives no order (log 30). -/
def State.raiseBoth (s : State) (k : NoticeKind) (payload : Option Word) : State :=
  (s.raise .a k payload).raise .b k payload

/-- From here on raises wait for the reply of the grant (R135). -/
def State.holdNotices (s : State) : State := s.setNotices { s.notices with held := some [] }

/-- The raises that waited are taken, in the order made (R135, R148). -/
def State.releaseNotices (s : State) : State :=
  (s.notices.held.getD []).foldl State.takeRaise (s.setNotices { s.notices with held := none })

/-- The repeat timer as an event leaves its condition (R144): started with a fresh period when it becomes true, stopped when
it becomes false. The model's choice (log 12): an event that makes the condition false and then true again, such as a lapse or a
fence of the only attached port with a flag while its peer is attached, leaves the timer running with the time it had. -/
def State.judgeRepeat (s : State) : State :=
  if s.repeatCondition then
    match s.notices.repeatTimer with
    | some _ => s
    | none => s.setNotices { s.notices with repeatTimer := some (s.settings.noticeRepeat * 10) }
  else s.setNotices { s.notices with repeatTimer := none }

/-! Fault capture (chapter 10) -/

/-- ALERT_N judged on the records and the enable set (R193). -/
def State.judgeAlert (s : State) : State :=
  s.setFaults { s.faults with alert := alertCondition s.faults s.settings.alertEnable }

/-- A fault fills its class's first record or joins the later-kinds set (R190). -/
def State.capture (s : State) (f : FaultRecord) : State :=
  let r := s.faults.get f.kind.faultClass
  let r' : ClassRecord :=
    match r.first with
    | none => { r with first := some { f with uptime := s.resetCtl.uptime } }
    | some _ => { r with later := r.later ||| f.kind.bit }
  (s.setFaults (s.faults.put f.kind.faultClass r')).judgeAlert

/-! Session ends (R51, R64, R67, R85) -/

/-- The sweeper is marked pending (R85). -/
def State.markSweep (s : State) : State :=
  s.setSweeper { s.sweeper with pending := true, endMarker := s.sweeper.position }

/-- A session takes a state in which it is not open: counts 0, both timers stopped, the fence line asserted exactly for
FENCED (R51, R67). -/
def Session.closeTo (x : Session) (st : SessionState) : Session :=
  { x with state := st, holdings := 0, adoptions := 0, lapseTimer := none, drainTimer := none
           fenceLine := decide (st = .fenced) }

/-- An abnormal session end into a state (R51). -/
def State.endSession (s : State) (p : Port) (st : SessionState) : State :=
  (s.setSession p ((s.session p).closeTo st)).markSweep

/-- A port leaves for a state: an abnormal end if its session was open (R51), else the change of state alone (R68, R70). -/
def State.leaveTo (s : State) (p : Port) (st : SessionState) : State :=
  if s.isOpen p then s.endSession p st else s.setSession p ((s.session p).closeTo st)

/-- A graceful end (R62, R64): DETACHED, timers stopped, PEER_DETACHED for the other port; no sweep, no fault. -/
def State.detachGracefully (s : State) (p : Port) : State :=
  (s.setSession p ((s.session p).closeTo .detached)).raise p.other .peerDetached
    (some ((s.session p).epoch.setWidth 32))

/-- The test a lowered count makes (R64): a DRAINING port with both counts 0 completes its drain. -/
def State.testDrain (s : State) (p : Port) : State :=
  if (s.session p).state = .draining ∧ (s.session p).holdings = 0 ∧ (s.session p).adoptions = 0 then
    s.detachGracefully p
  else s

/-- A port's holdings count falls by 1 (R25), with the drain test. -/
def State.lowerHoldings (s : State) (p : Port) : State :=
  (s.setSession p { s.session p with holdings := (s.session p).holdings - 1 }).testDrain p

/-- A port's adoptions count falls by 1 (R49), with the drain test. -/
def State.lowerAdoptions (s : State) (p : Port) : State :=
  (s.setSession p { s.session p with adoptions := (s.session p).adoptions - 1 }).testDrain p

/-- A port's holdings count rises by 1 (R25). -/
def State.raiseHoldings (s : State) (p : Port) : State :=
  s.setSession p { s.session p with holdings := (s.session p).holdings + 1 }

/-- A port's adoptions count rises by 1 (R89). -/
def State.raiseAdoptions (s : State) (p : Port) : State :=
  s.setSession p { s.session p with adoptions := (s.session p).adoptions + 1 }

/-- The counts of an entry's live holders and live adopter fall, as its holder summary names them (R95, R96, R160). The
summary is judged on the records as the grant finds them. The model's choice (log 31): if both holders' drains complete, A's
completes first, so in a grant without a reply B, still DRAINING, is sent PEER_DETACHED and A is not. -/
def State.lowerHolders (s : State) (h : HolderSummary) : State :=
  let s1 := if s.summaryLive .a h.holdA then s.lowerHoldings .a else s
  let s2 := if s.summaryLive .b h.holdB then s1.lowerHoldings .b else s1
  match h.adopter with
  | some a => if s.adopterLive a then s2.lowerAdoptions a.port else s2
  | none => s2

/-- A port is fenced (R58, R68, R70): FENCED with its line asserted, PEER_FENCED for its peer, a SESSION fault. -/
def State.fencePort (s : State) (p : Port) (cause : Word) (kind : FaultKind) : State :=
  ((s.leaveTo p .fenced).raise p.other .peerFenced (some cause)).capture { kind := kind, port := some p }

/-! Slot writes, the index, the orphan list, the free pool (chapter 1) -/

/-- A slot's storage set. -/
def State.putSlot (s : State) (n : Nat) (x : StoredSlot) : State :=
  s.setJournal { s.journal with store := SlotMap.insert n x s.journal.store }

/-- A free write (R5). -/
def State.freeWrite (s : State) (n : Nat) : State := s.putSlot n freeSlot

/-- A body write (R5): the body of a live slot takes an entry's fields and a fresh code, and the holder summary follows
(R95). The key copies stand. -/
def State.bodyWrite (s : State) (n : Nat) (e : EntryBody) : State :=
  let s1 := s.putSlot n { s.stored n with body := .entry e, ecc := .clean }
  match s.assoc n with
  | some a => s1.setJournal { s1.journal with index := SlotMap.insert n { a with summary := e.summary } s1.journal.index }
  | none => s1

/-- The key copies of a slot rewritten with one value (R5). -/
def State.keyWrite (s : State) (n : Nat) (v : KeyValue) : State :=
  s.putSlot n { s.stored n with keys := KeyCopies.all v }

/-- An entry write (R5) with the association it brings (R12). -/
def State.entryWrite (s : State) (n : Nat) (key : RegionKey) (e : EntryBody) : State :=
  let s1 := s.putSlot n (entrySlot key e)
  s1.setJournal { s1.journal with index := SlotMap.insert n { key := key, summary := e.summary } s1.journal.index }

/-- The sweeper's request stands when the slot at its position, for which it was made, ceases to be live (R86, log 18). -/
def State.keepRequest (s : State) (n : Nat) : State :=
  s.setArbiter { s.arbiter with
    sweepRequest := s.arbiter.sweepRequest || (s.sweeper.pending && s.running && decide (n = s.sweeper.position)) }

/-- The association of a slot removed, and the holder summary with it (R12, R95). -/
def State.unlink (s : State) (n : Nat) : State :=
  (s.setJournal { s.journal with index := SlotMap.erase n s.journal.index }).keepRequest n

/-- A key taken out of the orphan list (R81). -/
def State.dropOrphan (s : State) (k : RegionKey) : State :=
  s.setJournal { s.journal with orphans := s.journal.orphans.filter fun o => o.key ≠ k }

/-- An entry joins the orphan list at its stamp position (R80); a list that was empty raises ORPHANS_PRESENT (R83). An entry
already in the list is taken out of its place first; the list then was not empty (R80, R96). -/
def State.joinOrphans (s : State) (k : RegionKey) (stamp : Stamp) : State :=
  let s1 := s.dropOrphan k
  let s2 := s1.setJournal { s1.journal with orphans := insertOrphan ⟨k, stamp⟩ s1.journal.orphans }
  if s.journal.orphans.isEmpty then s2.raiseBoth .orphansPresent (some (wordOf s2.orphanCount)) else s2

/-- The low-water test, made when the pooled free count has fallen (R45). -/
def State.lowWaterTest (s : State) : State :=
  if s.engine.armed ∧ s.pooled < s.settings.lowWater then
    (s.setEngine { s.engine with armed := false }).raiseBoth .journalLow (some (wordOf s.pooled))
  else s

/-- The re-arm test, made when the pooled free count has risen (R46). -/
def State.rearmTest (s : State) : State :=
  if s.engine.armed = false ∧ s.settings.lowWater + Config.rearmMargin ≤ s.pooled then
    s.setEngine { s.engine with armed := true }
  else s

/-- A slot joins the tail of the free pool (R14), with the re-arm test. -/
def State.poolSlot (s : State) (n : Nat) : State :=
  (s.setJournal { s.journal with pool := s.journal.pool ++ [n] }).rearmTest

/-! Retirement (chapter 8) -/

/-- A block takes a state. -/
def State.setBlockState (s : State) (b : Nat) (st : BlockState) : State :=
  s.setIntegrity (s.integrity.setBlock b { s.block b with state := st })

/-- The retirement reserve falls by 1 (R166). -/
def State.lowerReserve (s : State) : State := s.setIntegrity { s.integrity with reserve := s.integrity.reserve - 1 }

/-- A block in progress is RETIRED (R169, steps 1 and 2). -/
def State.retire (s : State) (b : Nat) : State :=
  let s1 := s.setBlockState b .retired
  (s1.setIntegrity { s1.integrity with reserve := 0 }).raiseBoth .blockRetired (some (wordOf b))

/-- The tests made for the block in progress while the engine is READY: retirement when no live entry is left (R169), else
the MOVING test (R166). -/
def State.testProgress (s : State) : State :=
  if s.engine.state = .ready then
    match s.inProgress with
    | some b =>
      if s.integrity.reserve = 0 then s.retire b
      else s.setBlockState b (if s.integrity.reserve ≤ s.pooled then .moving else .closing)
    | none => s
  else s

/-- A block enters CLOSING (R165, steps 1 to 3): out of the queue, its pooled slots withdrawn with one low-water test if any
was (log 16), the reserve set to its live entries. Step 4, the MOVING test, follows in `settle`. -/
def State.enterClosing (s : State) (b : Nat) (rest : List Nat) : State :=
  let s1 := s.setIntegrity { s.integrity with retireQueue := rest }
  let s2 := s1.setBlockState b .closing
  let s3 := s2.setJournal { s2.journal with pool := s2.journal.pool.filter fun n => blockOf n ≠ b }
  let s4 := if s3.pooled < s.pooled then s3.lowWaterTest else s3
  s4.setIntegrity { s4.integrity with reserve := s4.liveInBlock b }

/-- The tests for the block in progress, then the entry to CLOSING of the head of the retire queue if it is due, and so on:
a block without live entries is retired at once and the next head follows (R165, R169). The bound is the queue's length. -/
def State.settleWithin : Nat → State → State
  | 0, s => s.testProgress
  | fuel + 1, s =>
    let s1 := s.testProgress
    if s1.closingDue then
      match s1.integrity.retireQueue with
      | b :: rest => State.settleWithin fuel (s1.enterClosing b rest)
      | [] => s1
    else s1

/-- What every grant that changes the pooled free count, the reserve, the queue or the engine state does for a retirement
(R165, R166, R169). -/
def State.settle (s : State) : State := State.settleWithin s.integrity.retireQueue.length s

/-- The entry to CLOSING that an earlier event left for the start of this grant (R155, R165). -/
def State.enterIfDue (s : State) : State := if s.closingDue then s.settle else s

/-- A block is tried for the retire queue under the limit of four (R153, R163); the entry to CLOSING it may bring is the
caller's. -/
def State.queueBlock (s : State) (b : Nat) : State :=
  if (s.block b).state = .inService ∧ b ∉ s.integrity.retireQueue then
    if s.retirementCount < Config.retireLimit then
      s.setIntegrity { s.integrity with retireQueue := s.integrity.retireQueue ++ [b] }
    else s.capture { kind := .retireLimit, block := some b }
  else s

/-- A slot whose entry has gone is freed (R14): to the pool, or withdrawn with the reserve lowered when its block is in
progress. -/
def State.freeSlotOf (s : State) (n : Nat) : State :=
  if (s.block (blockOf n)).state = .inService then s.poolSlot n
  else if (s.block (blockOf n)).state.inProgress then s.lowerReserve
  else s

/-- An entry is removed by a CLOSE or a RESOLVE (R39, R93). -/
def State.removeEntry (s : State) (n : Nat) : State := (((s.freeWrite n).unlink n).freeSlotOf n).settle

/-! The slot read (R4) -/

/-- What the storage of a slot yields at a read (R4, step 1). -/
def State.readOutcome (s : State) (n : Nat) (w : SlotWear) : ReadOutcome :=
  let x := w.onto (s.stored n)
  { vote := x.keys.vote (s.expectedKey n), ecc := x.ecc }

/-- The bucket as a read leaves it (R153, R156): the vote first, then the body; a lost vote leaves a corrected body
uncounted (log 15). -/
def readBucket (bucket threshold : Nat) (o : ReadOutcome) : Nat :=
  let b1 := if o.vote = .oneOff then min Config.bucketMax (bucket + 1) else bucket
  match o.ecc with
  | .clean => b1
  | .corrected => if o.vote.lost then b1 else min Config.bucketMax (b1 + 1)
  | .uncorrectable => max b1 threshold

/-- Whether a read makes the threshold test or queues its block at once (R153, R158 to R161; log 14, log 15). -/
def readQueues (bucket threshold : Nat) (o : ReadOutcome) : Bool :=
  o.vote.lost || decide (o.ecc = .uncorrectable) ||
    (decide (readBucket bucket threshold o ≠ bucket) && decide (threshold ≤ readBucket bucket threshold o))

/-- Step 2 of a slot read (R4, R156, R157): bucket, corrected faults, queuing, and the entry to CLOSING it brings. -/
def State.judgeRead (s : State) (n : Nat) (o : ReadOutcome) : State :=
  let b := blockOf n
  let blk := s.block b
  let threshold := s.settings.bucketThreshold
  let s1 := s.setIntegrity (s.integrity.setBlock b { blk with bucket := readBucket blk.bucket threshold o })
  let s2 := if o.vote = .oneOff then
      s1.capture { kind := .keyCorrected, slot := some n, block := some b, key := s.keyAt n } else s1
  let s3 := if o.ecc = .corrected ∧ o.vote.lost = false then
      s2.capture { kind := .bodyCorrected, slot := some n, block := some b, key := s.keyAt n } else s2
  if readQueues blk.bucket threshold o then (s3.queueBlock b).enterIfDue else s3

/-- A vote lost on a live slot (R160, steps 1 to 6). The model's choices: a drain that step 1 completes raises its PEER_DETACHED
there, before JOURNAL_COMPROMISED (log 32); JOURNAL_COMPROMISED comes before the BLOCK_RETIRED and JOURNAL_LOW of the retirement
that the loss brings, which is done here, before the operation that made the read goes on (log 33). -/
def State.loseEntry (s : State) (n : Nat) (a : Association) : State :=
  let s1 := ((s.lowerHolders a.summary).dropOrphan a.key).unlink n
  let s2 := s1.freeWrite n
  let s3 := if (s2.block (blockOf n)).state.inProgress then s2.lowerReserve else s2
  let s4 := (s3.setJournal { s3.journal with compromised := true }).raiseBoth .journalCompromised none
  (s4.capture { kind := .keyLost, slot := some n, block := some (blockOf n), key := some a.key }).settle

/-- A vote lost on a pooled or withdrawn slot (R161). -/
def State.loseFreeSlot (s : State) (n : Nat) : State :=
  let s1 := s.freeWrite n
  let s2 := if s1.journal.pool.contains n then
      (s1.setJournal { s1.journal with pool := s1.journal.pool.filter fun m => m ≠ n }).lowWaterTest.settle
    else s1
  s2.capture { kind := .keyLost, slot := some n, block := some (blockOf n) }

/-- An uncorrectable body on a live slot (R96, R158): the entry is damaged. The model's choice (log 32): a drain that the lowered
counts complete does so at step 1, so its PEER_DETACHED precedes ORPHANS_PRESENT and ENTRY_DAMAGED, and outside the grant of a
request the drained port is sent neither. -/
def State.damageEntry (s : State) (n : Nat) (a : Association) : State :=
  let s1 := ((s.lowerHolders a.summary).keyWrite n (.key a.key)).bodyWrite n damagedBody
  let s2 := (s1.joinOrphans a.key 0#64).raiseBoth .entryDamaged none
  s2.capture { kind := .bodyLost, slot := some n, block := some (blockOf n), key := some a.key }

/-- The rewrite of corrected contents (R157): the voted key in all copies, the corrected fields with a fresh code. -/
def State.rewrite (s : State) (n : Nat) : State :=
  s.putSlot n { keys := KeyCopies.all (s.expectedKey n), body := (s.stored n).body, ecc := .clean }

/-- Step 3 of a slot read (R4, R156): the outcomes are acted upon. `a` is the association of the slot at the read. -/
def State.actOnRead (s : State) (n : Nat) (a : Option Association) (o : ReadOutcome) : State :=
  if o.vote.lost then
    match a with
    | some x => s.loseEntry n x
    | none => s.loseFreeSlot n
  else
    match o.ecc with
    | .uncorrectable =>
      match a with
      | some x => s.damageEntry n x
      | none => (s.freeWrite n).capture { kind := .bodyLost, slot := some n, block := some (blockOf n) }
    | .corrected =>
      match a with
      | some _ => s.rewrite n
      | none => s.freeWrite n
    | .clean =>
      if o.vote = .oneOff then
        match a with
        | some _ => s.rewrite n
        | none => s.freeWrite n
      else s

/-- A hold as conversion leaves it: emptied if dead (R76). -/
def State.convertHold (s : State) (p : Port) (h : Option Held) : Option Held := if s.holdDead p h then none else h

/-- An entry as conversion on touch leaves it (R76, R77). -/
def State.converted (s : State) (e : EntryBody) : EntryBody :=
  match e.state with
  | .opened =>
    if s.holdDead .a e.holdA || s.holdDead .b e.holdB then
      let a := s.convertHold .a e.holdA
      let b := s.convertHold .b e.holdB
      { e with holdA := a, holdB := b, lostHolder := true
               state := if a.isNone && b.isNone then .orphan else .opened }
    else e
  | .orphan => e
  | .adopted =>
    match e.adopter with
    | some x => if s.adopterLive x then e else { e with state := .orphan, adopter := none }
    | none => e

/-- Conversion on touch of the entry in a slot (R75): no write when nothing changes; an entry made ORPHAN joins the list. -/
def State.convertOnTouch (s : State) (n : Nat) : State :=
  match s.entryAt n, s.keyAt n with
  | some e, some k =>
    let e' := s.converted e
    if e' = e then s
    else if e'.state = .orphan then (s.bodyWrite n e').joinOrphans k e.stamp
    else s.bodyWrite n e'
  | _, _ => s

/-- A slot read (R4) without conversion, steps 1 to 3. A slot of a RETIRED block is read and not acted upon (R162). -/
def State.readRaw (s : State) (n : Nat) (w : SlotWear) : State :=
  let s0 := if w = {} then s else s.putSlot n (w.onto (s.stored n))
  let o := s.readOutcome n w
  if s.blockRetired (blockOf n) then s0 else (s0.judgeRead n o).actOnRead n (s.assoc n) o

/-- A slot read with conversion on touch, steps 1 to 4. -/
def State.readSlot (s : State) (n : Nat) (w : SlotWear) : State := (s.readRaw n w).convertOnTouch n

end Sys2Proof.Machine
end

