-- ==== Sys2Proof/Machine/Grants.lean ====
section
/-! DEFINITION. Grants: what the arbiter does at one, the checks and the reply of a granted peer request, the transactions of
the service port, and the two ways a service request is executed. -/

namespace Sys2Proof.Machine

/-! Grants of the engine (R130 to R132, R165) -/

/-- The start of a rotation grant: the pointer moves to the place (R130), and an entry to CLOSING left for this grant is made
(R165). -/
def State.beginGrant (s : State) (p : Place) : State :=
  (s.setArbiter { s.arbiter with pointer := p, lastWasScrub := false }).enterIfDue

/-- The start of a scrub grant: the indicator is cleared and the timer restarts (R131); the pointer stands. -/
def State.beginScrub (s : State) : State :=
  (s.setArbiter { s.arbiter with scrubDue := false, lastWasScrub := true
                                 scrubTimer := if s.settings.scrubPace = 0 then none else some s.settings.scrubPace }).enterIfDue

/-! Peer requests (R107, R133 to R135) -/

/-- What a request's own rule answers: a status and payload words. -/
structure Answer where
  status  : ReplyStatus
  payload : List Word := []
  deriving DecidableEq, Repr

/-- The request that a grant to a port's queue would execute now, if the arbiter makes that grant (R106, R130). -/
def State.grantedRequest (s : State) (p : Port) : Option Request :=
  if s.nextGrant = some (.place (portPlace p)) then (s.link p).requests.head? else none

/-- The engine-state check and the session check (R134). -/
def State.sessionCheck (s : State) (p : Port) (epoch : Epoch) : Option ReplyStatus :=
  if s.engine.state = .initializing then some .notReady
  else match (s.session p).state with
    | .fenced => some .fenced
    | .detached => some .notAttached
    | .lapsed => some .notAttached
    | .attached => if epoch = (s.session p).epoch then none else some .staleEpoch
    | .draining => if epoch = (s.session p).epoch then none else some .staleEpoch

/-- A reply is stored as the newest of the cache; the oldest goes when 8 are held (R111). -/
def cachePush (c : List Reply) (r : Reply) : List Reply :=
  (if Config.cacheDepth ≤ c.length then c.tail else c) ++ [r]

/-- The three things of R107, in order: the reply is cached if of a cached kind, the request leaves the queue, the reply
joins the outbound queue. -/
def State.deliverReply (s : State) (p : Port) (r : Request) (a : Answer) : State :=
  let reply : Reply := { kind := replyKind r.kind, seq := r.seq, status := a.status, payload := a.payload }
  let l := s.link p
  let s1 := s.setLink p { l with cache := if a.status.cached then cachePush l.cache reply else l.cache
                                 requests := l.requests.tail }
  s1.enqueue p (.reply reply (s.session p).epoch false)

/-- The end of an event: the raises that waited are taken, and the repeat timer judged. -/
def State.finish (s : State) : State := s.releaseNotices.judgeRepeat

/-- A granted peer request (R107, R135): the grant begins, `run` executes it, its reply is delivered, then come the notices of the grant. -/
def State.serve (s : State) (p : Port) (r : Request) (run : State → Answer × State) : State :=
  let out := run (s.holdNotices.beginGrant (portPlace p))
  (out.2.deliverReply p r out.1).finish

/-- A request of any kind but ATTACH: the checks of R134, then its own rule. -/
def State.serveChecked (s : State) (p : Port) (r : Request) (run : State → Answer × State) : State :=
  s.serve p r fun t =>
    match t.sessionCheck p r.epoch with
    | some refusal => ({ status := refusal }, t)
    | none => run t

/-! The service port (R174 to R178). The bus events have no row of the table (log 20); the commands that arrive as a write are
made of them. -/

/-- The direction of a transaction on the bus (R174). -/
inductive BusDirection where
  | write
  | read
  deriving DecidableEq, Repr

/-- A START or a repeated START with an address (R174, R175): whether the port acknowledges it, and what it leaves. A write or a
read that was under way has ended, the write abandoned. -/
def State.busStart (s : State) (address : BitVec 7) (d : BusDirection) : Bool × State :=
  if s.service.target = .busy then (false, s)
  else
    let idle : ServicePort := { s.service with target := .idle, collection := [], overlong := false, sent := 0 }
    if address = s.service.address then
      match d with
      | .write => (true, s.setService { idle with target := .receiving })
      | .read => (true, s.setService { idle with target := .sending })
    else (false, s.setService idle)

/-- A data byte written to the port (R175): whether it is acknowledged, and what it leaves. -/
def State.busByte (s : State) (b : Byte) : Bool × State :=
  if s.service.target = .receiving then
    if s.service.collection.length < Config.collectionMax then
      (true, s.setService { s.service with collection := s.service.collection ++ [b] })
    else (false, s.setService { s.service with overlong := true })
  else (false, s)

/-- A data byte read from the port (R177): the next byte of the buffer, all ones beyond its end; none unless SENDING. -/
def State.busSend (s : State) : Option Byte × State :=
  if s.service.target = .sending then
    (some (s.service.readBytes[s.service.sent]?.getD 0xFF), s.setService { s.service with sent := s.service.sent + 1 })
  else (none, s)

/-- The STOP of a write (R175, R176). -/
def State.stopWrite (s : State) : State :=
  let cleared : ServicePort := { s.service with target := .idle, collection := [], overlong := false }
  match judgeWrite s.service.collection s.service.overlong with
  | .ignored => s.setService cleared
  | .badFormat => s.setService { cleared with result := some { status := .badFormat } }
  | .unknown => s.setService { cleared with result := some { status := .unknown } }
  | .accepted => s.setService { cleared with target := .busy, result := none }

/-- A STOP on the bus (R174 to R176): it ends a write with its judgement, and a read. -/
def State.busStop (s : State) : State :=
  match s.service.target with
  | .receiving => s.stopWrite
  | .sending => s.setService { s.service with target := .idle, sent := 0 }
  | .idle => s
  | .busy => s

/-- A write transaction to the port up to its last byte (R174, R175): `none` if its address is not acknowledged. -/
def State.receiveWrite (s : State) (bytes : List Byte) : Option State :=
  let start := s.busStart s.service.address .write
  if start.1 then some (bytes.foldl (fun t b => (t.busByte b).2) start.2) else none

/-- A complete write (R175, R176): `none` if its address is not acknowledged. -/
def State.write (s : State) (bytes : List Byte) : Option State := (s.receiveWrite bytes).map State.busStop

/-- `n` bytes of a read transaction under way. -/
def State.sendBytes : Nat → State → List (Option Byte) × State
  | 0, s => ([], s)
  | n + 1, s =>
    let head := s.busSend
    let rest := State.sendBytes n head.2
    (head.1 :: rest.1, rest.2)

/-- A complete read of `n` bytes (R174, R177): `none` if the address is not acknowledged. -/
def State.read (s : State) (n : Nat) : Option (List (Option Byte) × State) :=
  let start := s.busStart s.service.address .read
  if start.1 then
    let out := State.sendBytes n start.2
    some (out.1, out.2.busStop)
  else none

/-- A request completes: its result is placed and the port returns to IDLE (R176). -/
def State.complete (s : State) (r : ServiceResult) : State :=
  s.setService { s.service with target := .idle, inProgress := none, result := some r }

/-- A service request taken without a grant as soon as it is accepted (R178): `run` is its owner's event. -/
def State.serviceEvent (s : State) (code : Byte) (params : List Byte) (run : State → ServiceResult × State) : State :=
  match s.write (requestBytes code params) with
  | none => s
  | some t =>
    if t.service.target = .busy then
      let out := run t
      out.2.complete out.1
    else t

/-- The service request that a grant to the service port's place would execute now (R130, R178). -/
def State.grantedService (s : State) : Option GrantRequest :=
  if s.nextGrant = some (.place .service) then s.service.inProgress else none

/-- A service request executed within its grant (R135, R178). -/
def State.serviceGrant (s : State) (run : State → ServiceResult × State) : State :=
  let out := run (s.beginGrant .service)
  (out.2.complete out.1).finish

end Sys2Proof.Machine
end

