-- ==== Sys2Proof/Machine/Links.lean ====
section
/-! DEFINITION. The events of a journal link: signal detect, training, loss of lock, a frame received, a frame sent. -/

namespace Sys2Proof.Machine

/-- A port's entry to DOWN from TRAINING or UP (R101): outbound queue and transmission lost, LINK_DOWN captured. The request
queue and the reply cache are kept. -/
def State.enterDown (s : State) (p : Port) : State :=
  (s.setLink p { s.link p with state := .down, trainingLimit := none, outbound := [], sending := none }).capture
    { kind := .linkDown, port := some p }

/-- SIGNAL_DETECT (R99, R100). -/
def execSignalDetect (p : Port) (s : State) : Host.Outcome State Fault Refusal :=
  .next <| match (s.link p).state with
    | .down => s.setLink p { s.link p with state := .training, trainingLimit := some Config.trainingLimit }
    | .training => s
    | .up => s

/-- TRAINING_COMPLETES (R99, R100). -/
def execTrainingCompletes (p : Port) (s : State) : Host.Outcome State Fault Refusal :=
  .next <| match (s.link p).state with
    | .training => s.setLink p { s.link p with state := .up, trainingLimit := none }
    | .down => s
    | .up => s

/-- TRAINING_LIMIT_EXPIRY (R99 to R101). -/
def execTrainingLimitExpiry (p : Port) (s : State) : Host.Outcome State Fault Refusal :=
  .next <| match (s.link p).state with
    | .training => s.enterDown p
    | .down => s
    | .up => s

/-- LOSS_OF_LOCK (R99, R101). -/
def execLossOfLock (p : Port) (s : State) : Host.Outcome State Fault Refusal :=
  .next <| match (s.link p).state with
    | .training => s.enterDown p
    | .up => s.enterDown p
    | .down => s

/-- The restart of the lapse timer by a good frame of the current epoch (R56, R104). An ATTACH (kind 0x01) restarts nothing: the
part ignores its epoch field. -/
def State.restartLapse (s : State) (p : Port) (r : Request) : State :=
  if s.epochLive p r.epoch && decide (r.kind ≠ 0x01) then
    s.setSession p { s.session p with lapseTimer := some (s.settings.lapsePeriod p) }
  else s

/-- The admission of a good frame (R104): a cached sequence number is replayed (R113), a queued one discarded, a ninth
request overruns (R110), any other joins the queue. -/
def State.admitFrame (s : State) (p : Port) (r : Request) : State :=
  let t := s.restartLapse p r
  let l := t.link p
  match l.cache.find? fun c => c.seq = r.seq with
  | some c => t.enqueue p (.reply c (t.session p).epoch true)
  | none =>
    if l.requests.any fun q => q.seq = r.seq then t
    else if Config.requestDepth ≤ l.requests.length then t.capture { kind := .overrun, port := some p }
    else t.setLink p { l with requests := l.requests ++ [r] }

/-- REQUEST_FRAME (R103, R104): received only while the link is UP. -/
def execRequestFrame (p : Port) (words : List Word) (s : State) : Host.Outcome State Fault Refusal :=
  .next <| match (s.link p).state with
    | .up =>
      match receiveFrame words with
      | .malformed => s.capture { kind := .malformed, port := some p }
      | .badCrc => s.capture { kind := .crc, port := some p }
      | .good r => s.admitFrame p r
    | .down => s
    | .training => s

/-- FRAME_TRANSMIT (R120): the head of the outbound queue leaves it as its transmission begins. That the frame before it has
been sent is the command's own premise (log 23). -/
def execFrameTransmit (p : Port) (s : State) : Host.Outcome State Fault Refusal :=
  .next <| match (s.link p).state, (s.link p).outbound with
    | .up, f :: rest => s.setLink p { s.link p with outbound := rest, sending := some f }
    | _, _ => s

end Sys2Proof.Machine
end

