-- ==== Sys2Proof/Machine/Sessions.lean ====
section
/-! DEFINITION. The session requests of a controller: BAD_REQUEST, ATTACH, DETACH, PULSE, CLEAR_MARK, FENCE_PEER, ACK_NOTICE,
STATUS. A command whose event the state does not admit leaves the state as it is (log 1). -/

namespace Sys2Proof.Machine

/-- BAD_REQUEST (R133). -/
def execBadRequest (p : Port) (s : State) : Host.Outcome State Fault Refusal :=
  .next <| match s.grantedRequest p with
    | none => s
    | some r => match r.classify with
      | .bad => s.serve p r fun t => ({ status := .badRequest }, t)
      | _ => s

/-- The new session of an ATTACH (R52): epoch, state, counts and timers; the reply cache emptied, the pending flags cleared,
the notice serial 0 (R114, R146, R147), PEER_ATTACHED for the other port. -/
def State.openSession (s : State) (p : Port) : State :=
  let x := s.session p
  let e := nextEpoch x.epoch
  let s1 := s.setSession p { x with state := .attached, epoch := e, holdings := 0, adoptions := 0, drainTimer := none
                                    lapseTimer := some (s.settings.lapsePeriod p), clearedSince := false }
  let s2 := s1.setLink p { s1.link p with cache := [] }
  let s3 := s2.setNotices { s2.notices with flags := s2.notices.flags.set p {}
                                            serials := s2.notices.serials.set p 0#8 }
  s3.raise p.other .peerAttached (some (e.setWidth 32))

/-- The contents of an ATTACH reply (R55, Table 11-2), from the state the attach leaves. -/
def State.attachReply (s : State) (p : Port) (incarnation : Word) (cleared : Bool) : List Word :=
  [incarnation, word2 s.journal.generation.toNat (s.session p).epoch.toNat,
   wordOf ((s.session p.other).state.code * 2 ^ 8 + bitIf cleared 0 + bitIf s.journal.compromised 1 +
     bitIf s.sweeper.pending 2),
   wordOf s.orphanCount]

/-- ATTACH at its grant (R52 to R55). -/
def State.runAttach (p : Port) (incarnation : Word) (s : State) : Answer × State :=
  if s.engine.state = .initializing then ({ status := .notReady }, s)
  else if (s.session p).state = .fenced then ({ status := .fenced }, s)
  else
    let s1 := if s.isOpen p then s.endSession p .detached else s
    let s2 := s1.openSession p
    ({ status := .ok, payload := s2.attachReply p incarnation (s.session p).clearedSince }, s2)

/-- ATTACH (R52). -/
def execAttach (p : Port) (s : State) : Host.Outcome State Fault Refusal :=
  .next <| match s.grantedRequest p with
    | none => s
    | some r => match r.classify with
      | .attach i => s.serve p r (State.runAttach p i)
      | _ => s

/-- DETACH GRACEFUL past its checks (R62). -/
def State.runDetachGraceful (p : Port) (s : State) : Answer × State :=
  let x := s.session p
  if x.state = .attached then
    if x.holdings = 0 ∧ x.adoptions = 0 then ({ status := .ok }, s.detachGracefully p)
    else ({ status := .ok },
      s.setSession p { x with state := .draining, drainTimer := some (s.settings.drainLimit * 100) })
  else ({ status := .ok }, s)

/-- DETACH_GRACEFUL (R62). -/
def execDetachGraceful (p : Port) (s : State) : Host.Outcome State Fault Refusal :=
  .next <| match s.grantedRequest p with
    | none => s
    | some r => match r.classify with
      | .detachGraceful => s.serveChecked p r (State.runDetachGraceful p)
      | _ => s

/-- DETACH ABRUPT past its checks (R65). -/
def State.runDetachAbrupt (p : Port) (s : State) : Answer × State :=
  ({ status := .ok },
   (s.endSession p .detached).raise p.other .peerDetached (some ((s.session p).epoch.setWidth 32)))

/-- DETACH_ABRUPT (R65). -/
def execDetachAbrupt (p : Port) (s : State) : Host.Outcome State Fault Refusal :=
  .next <| match s.grantedRequest p with
    | none => s
    | some r => match r.classify with
      | .detachAbrupt => s.serveChecked p r (State.runDetachAbrupt p)
      | _ => s

/-- PULSE past its checks (R72): the peer's state and the port's pending-notice set. -/
def State.runPulse (p : Port) (s : State) : Answer × State :=
  ({ status := .ok
     payload := [wordOf ((s.session p.other).state.code * 2 ^ 8 + (s.notices.flags.get p).setCode)] }, s)

/-- PULSE (R72). -/
def execPulse (p : Port) (s : State) : Host.Outcome State Fault Refusal :=
  .next <| match s.grantedRequest p with
    | none => s
    | some r => match r.classify with
      | .pulse => s.serveChecked p r (State.runPulse p)
      | _ => s

/-- CLEAR_MARK past its checks (R61). -/
def State.runClearMark (p : Port) (s : State) : Answer × State :=
  ({ status := .ok }, s.setSession p { s.session p with lapseMark := false })

/-- CLEAR_MARK (R61). -/
def execClearMark (p : Port) (s : State) : Host.Outcome State Fault Refusal :=
  .next <| match s.grantedRequest p with
    | none => s
    | some r => match r.classify with
      | .clearMark => s.serveChecked p r (State.runClearMark p)
      | _ => s

/-- FENCE_PEER past its checks (R68). -/
def State.runFencePeer (p : Port) (s : State) : Answer × State :=
  if (s.session p).state = .draining then ({ status := .draining }, s)
  else if (s.session p).lapseMark then ({ status := .markSet }, s)
  else if s.settings.fencePeerEnable = 0 then ({ status := .fenceOff }, s)
  else if (s.session p.other).state = .fenced then ({ status := .alreadyFenced }, s)
  else ({ status := .ok }, s.fencePort p.other fenceCausePeer .fenceByPeer)

/-- FENCE_PEER (R68). -/
def execFencePeer (p : Port) (s : State) : Host.Outcome State Fault Refusal :=
  .next <| match s.grantedRequest p with
    | none => s
    | some r => match r.classify with
      | .fencePeer => s.serveChecked p r (State.runFencePeer p)
      | _ => s

/-- ACK_NOTICE past its checks (R145). -/
def State.runAckNotice (p : Port) (k : NoticeKind) (s : State) : Answer × State :=
  let s1 := if k.repeating then s.setFlag p k none else s
  ({ status := .ok, payload := [wordOf (s1.notices.flags.get p).setCode] }, s1)

/-- ACK_NOTICE (R145). -/
def execAckNotice (p : Port) (s : State) : Host.Outcome State Fault Refusal :=
  .next <| match s.grantedRequest p with
    | none => s
    | some r => match r.classify with
      | .ackNotice k => s.serveChecked p r (State.runAckNotice p k)
      | _ => s

/-- The values of a STATUS reply (R73, Table 11-2). -/
def State.statusReply (s : State) (p : Port) : List Word :=
  let x := s.session p
  [word4 (BitVec.ofNat 8 x.state.code) (BitVec.ofNat 8 s.engine.state.code)
      (BitVec.ofNat 8 (s.session p.other).state.code)
      (BitVec.ofNat 8 (bitIf x.lapseMark 0 + bitIf s.journal.compromised 1 + bitIf s.sweeper.pending 2)),
   word2 x.holdings x.adoptions, word2 s.pooled s.orphanCount,
   word2 s.journal.generation.toNat (s.notices.flags.get p).setCode]

/-- STATUS past its checks (R73). -/
def State.runStatus (p : Port) (s : State) : Answer × State :=
  ({ status := .ok, payload := s.statusReply p }, s)

/-- STATUS (R73). -/
def execStatus (p : Port) (s : State) : Host.Outcome State Fault Refusal :=
  .next <| match s.grantedRequest p with
    | none => s
    | some r => match r.classify with
      | .status => s.serveChecked p r (State.runStatus p)
      | _ => s

end Sys2Proof.Machine
end

