-- ==== Sys2Proof/Machine/Requests.lean ====
section
/-! DEFINITION. The journal requests of a controller: OPEN, CLOSE, QUERY, ADOPT, RESOLVE. -/

namespace Sys2Proof.Machine

/-! OPEN (R28 to R34) -/

/-- A refusal of OPEN for want of quota (R26, R36). -/
def State.refuseQuota (s : State) (p : Port) (k : RegionKey) : Answer × State :=
  ({ status := .quota, payload := [word2 (s.session p).holdings (s.settings.quota p)] },
   s.capture { kind := .quota, port := some p, key := some k })

/-- A refusal of OPEN for want of a slot or a stamp (R32, R36). -/
def State.refuseFull (s : State) (p : Port) (k : RegionKey) : Answer × State :=
  ({ status := .journalFull, payload := [word2 s.pooled s.integrity.reserve] },
   s.capture { kind := .journalFull, port := some p, key := some k })

/-- The note an OPEN leaves (R33): the supplied one, else the stored one. -/
def appliedNote (supplied stored : List Word) : List Word := if supplied = [] then stored else supplied

/-- The payload of OPENED, JOINED and HOLD_LIMIT. -/
def stampAndCount (stamp : Stamp) (count : Nat) : List Word := stampWords stamp ++ [wordOf count]

/-- OPEN of a key without an entry (R32). -/
def State.createEntry (s : State) (p : Port) (k : RegionKey) (note : List Word) : Answer × State :=
  if s.settings.quota p ≤ (s.session p).holdings then s.refuseQuota p k
  else if s.pooled ≤ s.integrity.reserve then s.refuseFull p k
  else if s.journal.stamp = Config.stampMax then s.refuseFull p k
  else match s.journal.pool with
    | [] => s.refuseFull p k
    | n :: rest =>
      let stamp := s.journal.stamp
      let s1 := s.setJournal { s.journal with pool := rest, stamp := stamp + 1#64 }
      let s2 := s1.entryWrite n k (newBody p (s.session p).epoch stamp note)
      ({ status := .opened, payload := stampAndCount stamp 1 }, ((s2.raiseHoldings p).lowWaterTest).settle)

/-- OPEN of an entry in slot `n` that its slot read left (R29 to R31). -/
def State.joinEntry (s : State) (p : Port) (k : RegionKey) (note : List Word) (n : Nat) (e : EntryBody) :
    Answer × State :=
  match e.state with
  | .orphan => ({ status := .inRecovery, payload := [wordOf (entryStateCode .orphan)] }, s)
  | .adopted => ({ status := .inRecovery, payload := [wordOf (entryStateCode .adopted)] }, s)
  | .opened =>
    match e.hold p with
    | some h =>
      if h.count < Config.holdLimit then
        ({ status := .joined, payload := stampAndCount e.stamp (h.count + 1) },
         s.bodyWrite n { e.setHold p (some { h with count := h.count + 1 }) with note := appliedNote note e.note })
      else ({ status := .holdLimit, payload := stampAndCount e.stamp h.count }, s)
    | none =>
      if s.settings.quota p ≤ (s.session p).holdings then s.refuseQuota p k
      else
        ({ status := .joined, payload := stampAndCount e.stamp 1 },
         (s.bodyWrite n { e.setHold p (some { count := 1, epoch := (s.session p).epoch }) with
                            note := appliedNote note e.note }).raiseHoldings p)

/-- OPEN past its general checks (R28). -/
def State.runOpen (p : Port) (k : RegionKey) (note : List Word) (w : SlotWear) (s : State) : Answer × State :=
  if s.engine.state = .frozen then ({ status := .frozen }, s)
  else if (s.session p).state = .draining then ({ status := .draining }, s)
  else match s.lookup k with
    | none => s.createEntry p k note
    | some n =>
      let t := s.readSlot n w
      match t.entryAt n with
      | some e => t.joinEntry p k note n e
      | none => t.createEntry p k note

/-- OPEN (R28). -/
def execOpen (p : Port) (w : SlotWear) (s : State) : Host.Outcome State Fault Refusal :=
  .next <| match s.grantedRequest p with
    | none => s
    | some r => match r.classify with
      | .openIntent k note => s.serveChecked p r (State.runOpen p k note w)
      | _ => s

/-! CLOSE (R37 to R41) -/

/-- CLOSE of a live hold of `p` in slot `n` (R38 to R40). The model's choice (log 30): the count change and its drain test follow the
journal's, so ORPHANS_PRESENT and the notices of a retirement are raised before the PEER_DETACHED of a drain that it completes. -/
def State.closeHold (s : State) (p : Port) (k : RegionKey) (n : Nat) (e : EntryBody) (h : Held) : Answer × State :=
  if 1 < h.count then
    ({ status := .closed, payload := [wordOf (h.count - 1)] },
     s.bodyWrite n (e.setHold p (some { h with count := h.count - 1 })))
  else if (e.hold p.other).isSome then
    ({ status := .closed, payload := [wordOf 0] }, (s.bodyWrite n (e.setHold p none)).lowerHoldings p)
  else if e.lostHolder then
    ({ status := .orphaned, payload := stampWords e.stamp },
     ((s.bodyWrite n { e.setHold p none with state := .orphan }).joinOrphans k e.stamp).lowerHoldings p)
  else
    ({ status := .released, payload := stampWords e.stamp }, (s.removeEntry n).lowerHoldings p)

/-- CLOSE past its general checks (R37). -/
def State.runClose (p : Port) (k : RegionKey) (w : SlotWear) (s : State) : Answer × State :=
  match s.lookup k with
  | none => ({ status := .notFound }, s)
  | some n =>
    let t := s.readSlot n w
    match t.entryAt n with
    | none => ({ status := .notFound }, t)
    | some e =>
      match e.hold p with
      | none => ({ status := .notHeld }, t)
      | some h => t.closeHold p k n e h

/-- CLOSE (R37). -/
def execClose (p : Port) (w : SlotWear) (s : State) : Host.Outcome State Fault Refusal :=
  .next <| match s.grantedRequest p with
    | none => s
    | some r => match r.classify with
      | .closeIntent k => s.serveChecked p r (State.runClose p k w)
      | _ => s

/-! QUERY (R43, R44) -/

/-- The fields an OK reply to QUERY reports (R44, Table 11-2). A dead hold is already empty. -/
def queryReply (e : EntryBody) : List Word :=
  [word4 (BitVec.ofNat 8 (entryStateCode e.state)) (BitVec.ofNat 8 (holdCount e.holdA))
      (BitVec.ofNat 8 (holdCount e.holdB))
      (BitVec.ofNat 8 (bitIf e.lostHolder 0 + bitIf e.damaged 1 + bitIf e.adopter.isSome 2 + e.note.length * 16))] ++
  stampWords e.stamp ++
  [match e.adopter with
    | some a => word2 (portCode a.port) a.epoch.toNat
    | none => 0#32] ++ e.note

/-- QUERY past its general checks (R43). -/
def State.runQuery (k : RegionKey) (w : SlotWear) (s : State) : Answer × State :=
  match s.lookup k with
  | none => ({ status := .noEntry }, s)
  | some n =>
    let t := s.readSlot n w
    match t.entryAt n with
    | none => ({ status := .noEntry }, t)
    | some e => ({ status := .ok, payload := queryReply e }, t)

/-- QUERY (R43). -/
def execQuery (p : Port) (w : SlotWear) (s : State) : Host.Outcome State Fault Refusal :=
  .next <| match s.grantedRequest p with
    | none => s
    | some r => match r.classify with
      | .query k => s.serveChecked p r (State.runQuery k w)
      | _ => s

/-! ADOPT (R88 to R90) -/

/-- An entry taken by an ADOPT (R89, step 4): ADOPTED by `p` under its current epoch, out of the list, one body write. -/
def State.takeOrphan (s : State) (p : Port) (k : RegionKey) (n : Nat) (e : EntryBody) : State :=
  ((s.dropOrphan k).bodyWrite n
    { e with state := .adopted, adopter := some ⟨p, (s.session p).epoch⟩ }).raiseAdoptions p

/-- What an ADOPT reply lists for an entry taken (R90, Table 11-2). -/
def adoptedWords (k : RegionKey) (e : EntryBody) : List Word :=
  keyWords k ++ stampWords e.stamp ++
    [wordOf (bitIf e.lostHolder 0 + bitIf e.damaged 1 + e.note.length * 16)] ++ e.note

/-- The entries an ADOPT takes, one at a time from the head of the list (R89). `room` is how many it may still take; every
turn takes the head out of the list, so the bound `fuel`, the list's length, is never met early. It answers the number taken
and the words listed. -/
def State.adoptLoop (p : Port) : Nat → Nat → List SlotWear → State → (Nat × List Word) × State
  | 0, _, _, s => ((0, []), s)
  | _ + 1, 0, _, s => ((0, []), s)
  | fuel + 1, room + 1, ws, s =>
    match s.journal.orphans with
    | [] => ((0, []), s)
    | o :: _ =>
      match s.lookup o.key with
      | none => State.adoptLoop p fuel (room + 1) ws (s.dropOrphan o.key)
      | some n =>
        let t := s.readSlot n (ws.headD {})
        match t.entryAt n with
        | none => State.adoptLoop p fuel (room + 1) ws.tail (t.dropOrphan o.key)
        | some e =>
          let out := State.adoptLoop p fuel room ws.tail (t.takeOrphan p o.key n e)
          ((out.1.1 + 1, adoptedWords o.key e ++ out.1.2), out.2)

/-- The reply of an ADOPT that took `taken` entries (R88, R90), from the state it leaves. -/
def State.adoptAnswer (s : State) (taken : Nat) (entries : List Word) : Answer :=
  { status := if taken = 0 then .noEntry else .ok
    payload := wordOf (taken * 2 ^ 24 + bitIf s.sweeper.pending 16 + s.orphanCount) :: entries }

/-- ADOPT past its general checks (R88). -/
def State.runAdopt (p : Port) (ws : List SlotWear) (s : State) : Answer × State :=
  if s.engine.state = .frozen then ({ status := .frozen }, s)
  else if (s.session p).state = .draining then ({ status := .draining }, s)
  else
    let out := State.adoptLoop p s.orphanCount Config.adoptLimit ws s
    (out.2.adoptAnswer out.1.1 out.1.2, out.2)

/-- ADOPT (R89). -/
def execAdopt (p : Port) (ws : List SlotWear) (s : State) : Host.Outcome State Fault Refusal :=
  .next <| match s.grantedRequest p with
    | none => s
    | some r => match r.classify with
      | .adopt => s.serveChecked p r (State.runAdopt p ws)
      | _ => s

/-! RESOLVE (R92, R93) -/

/-- Whether an entry is ADOPTED with a live adopter that is `p` (R92). -/
def State.adoptedBy (s : State) (p : Port) (e : EntryBody) : Bool :=
  decide (e.state = .adopted) &&
    match e.adopter with
    | some a => decide (a.port = p) && s.adopterLive a
    | none => false

/-- RESOLVE past its general checks (R92, R93). The model's choice (log 30): the notices of a retirement are raised before the
PEER_DETACHED of a drain that it completes. -/
def State.runResolve (p : Port) (k : RegionKey) (w : SlotWear) (s : State) : Answer × State :=
  match s.lookup k with
  | none => ({ status := .notFound }, s)
  | some n =>
    let t := s.readSlot n w
    match t.entryAt n with
    | none => ({ status := .notFound }, t)
    | some e =>
      if t.adoptedBy p e then
        ({ status := .released, payload := stampWords e.stamp }, (t.removeEntry n).lowerAdoptions p)
      else ({ status := .notAdopter }, t)

/-- RESOLVE (R93). -/
def execResolve (p : Port) (w : SlotWear) (s : State) : Host.Outcome State Fault Refusal :=
  .next <| match s.grantedRequest p with
    | none => s
    | some r => match r.classify with
      | .resolve k => s.serveChecked p r (State.runResolve p k w)
      | _ => s

end Sys2Proof.Machine
end

