-- ==== Sys2Proof/Machine/Engines.lean ====
section
/-! DEFINITION. The part's own engines: the scrubber, the sweeper, the relocator, the initialiser. -/

namespace Sys2Proof.Machine

/-! The scrubber (R171) -/

/-- The first slots of the blocks behind block `b`, in turn. -/
def blocksAfter (b : Nat) : List Nat := (List.range 16).map fun i => (b + 1 + i) % Config.blockCount

/-- The slot a scrub grant reads (R171): the one at the scrub position, or, in a RETIRED block, the first slot of the next
block that is not RETIRED. -/
def State.scrubSlot (s : State) : Nat :=
  let pos := s.integrity.scrubPosition
  if s.blockRetired (blockOf pos) then
    match (blocksAfter (blockOf pos)).find? fun b => !s.blockRetired b with
    | some b => b * Config.slotsPerBlock
    | none => pos
  else pos

/-- SCRUB_READ (R131, R171). -/
def execScrubRead (w : SlotWear) (s : State) : Host.Outcome State Fault Refusal :=
  .next <|
    if s.nextGrant = some .scrubber then
      let t := s.beginScrub
      let n := t.scrubSlot
      let u := t.readSlot n w
      (u.setIntegrity { u.integrity with scrubPosition := (n + 1) % Config.slotCount }).finish
    else s

/-! The sweeper (R84 to R87) -/

/-- The sweeper's position advances by 1; at the end marker the pass completes (R86, R87). The request made for the old position
is gone. -/
def State.advanceSweep (s : State) : State :=
  let pos := (s.sweeper.position + 1) % Config.slotCount
  (s.setSweeper { s.sweeper with position := pos
                                 pending := if pos = s.sweeper.endMarker then false else s.sweeper.pending }).setArbiter
    { s.arbiter with sweepRequest := false }

/-- SWEEP_STEP (R86): a sweep grant; a slot that was live at the request and is so no longer is not read. -/
def execSweepStep (w : SlotWear) (s : State) : Host.Outcome State Fault Refusal :=
  .next <|
    if s.nextGrant = some (.place .sweeper) then
      let t := s.beginGrant .sweeper
      let n := t.sweeper.position
      let u := if t.condition n = .live then t.readSlot n w else t
      u.advanceSweep.finish
    else s

/-- SWEEP_ADVANCE (R86): past a pooled or withdrawn slot, without a grant; not while a request made for the slot stands. -/
def execSweepAdvance (s : State) : Host.Outcome State Fault Refusal :=
  .next <|
    if s.sweeper.pending && s.running && decide (s.condition s.sweeper.position ≠ .live) && !s.arbiter.sweepRequest then
      s.advanceSweep
    else s

/-! The relocator (R167) -/

/-- The move of an entry from slot `n` to the head free slot (R167, steps 2 to 5), as the read and conversion left it. -/
def State.moveEntry (s : State) (n : Nat) (a : Association) (e : EntryBody) : State :=
  match s.journal.pool with
  | [] => s
  | m :: rest =>
    let s1 := (s.setJournal { s.journal with pool := rest }).lowWaterTest
    let s2 := (s1.unlink n).entryWrite m a.key e
    (s2.freeWrite n).lowerReserve.settle

/-- A relocation move out of a block (R167). -/
def State.relocate (s : State) (b : Nat) (w : SlotWear) : State :=
  match s.lowestLive b with
  | none => s
  | some n =>
    let t := s.readSlot n w
    match t.assoc n, t.entryAt n with
    | some a, some e => t.moveEntry n a e
    | _, _ => t

/-- RELOCATION_MOVE (R167). -/
def execRelocationMove (w : SlotWear) (s : State) : Host.Outcome State Fault Refusal :=
  .next <|
    if s.nextGrant = some (.place .relocator) then
      let t := s.beginGrant .relocator
      match t.inProgress with
      | some b => (t.relocate b w).finish
      | none => t.finish
    else s

/-! The initialiser (R124, R129, R131, R154) -/

/-- The scrub pace timer as READY or FROZEN is entered (R131). -/
def State.startScrubTimer (s : State) : State :=
  s.setArbiter { s.arbiter with
    scrubTimer := if s.settings.scrubPace = 0 then none else some s.settings.scrubPace }

/-- The end of initialisation (R124): READY, or FROZEN if a freeze is remembered, with FREEZE_CHANGED (R129); the scrub pace
timer starts, and the leak timer starts if it never has since power-on (R154). -/
def State.endInitialisation (s : State) : State :=
  let frozen := s.engine.rememberedFreeze
  let s1 := s.setEngine { s.engine with state := if frozen then .frozen else .ready, rememberedFreeze := false }
  let s2 := s1.startScrubTimer
  let s3 := s2.setIntegrity { s2.integrity with
    leakTimer := some (s2.integrity.leakTimer.getD (s2.settings.leakPeriod * 1000)) }
  if frozen then s3.raiseBoth .freezeChanged (some (wordOf EngineState.frozen.code)) else s3

/-- The initialiser's position advances by 1; past slot 1023 initialisation ends (R124). -/
def State.advanceInit (s : State) : State :=
  let s1 := s.setEngine { s.engine with initPos := s.engine.initPos + 1 }
  if Config.slotCount ≤ s.engine.initPos + 1 then s1.endInitialisation else s1

/-- INITIALISER_WRITE (R124): a free write, the slot pooled, the advance; a block that waits enters CLOSING in the grant that
ends initialisation (R165, R170). -/
def execInitialiserWrite (s : State) : Host.Outcome State Fault Refusal :=
  .next <|
    if s.nextGrant = some (.place .initialiser) then
      let t := s.beginGrant .initialiser
      let n := t.engine.initPos
      (((t.freeWrite n).poolSlot n).advanceInit.enterIfDue).finish
    else s

/-- INITIALISER_ADVANCE (R124): past a slot of a RETIRED block, without a grant. -/
def execInitialiserAdvance (s : State) : Host.Outcome State Fault Refusal :=
  .next <|
    if s.engine.state = .initializing ∧ s.engine.initPos < Config.slotCount ∧
        s.blockRetired (blockOf s.engine.initPos) = true then
      s.advanceInit.finish
    else s

end Sys2Proof.Machine
end

