-- ==== Sys2Proof/Machine/Resets.lean ====
section
/-! DEFINITION. The resets (6.6): power-on, warm and clearing. -/

namespace Sys2Proof.Machine

/-- A session record after a warm or clearing reset (R74). -/
def Session.afterReset (x : Session) (clearing : Bool) : Session :=
  { x.closeTo (if x.state = .fenced then .fenced else .detached) with clearedSince := x.clearedSince || clearing }

/-- The sweeper after a warm or clearing reset: marked if the reset ended a session (R74, R85, R98). -/
def Sweeper.afterReset (x : Sweeper) (ended : Bool) : Sweeper :=
  if ended then { x with pending := true, endMarker := x.position } else x

/-- What a warm and a clearing reset do alike (R74, R121, R137, R138, R149, R186): the cause recorded, sessions ended, links
down with their queues emptied, flags and serials cleared, the service port idle with its address sampled, the arbiter's
pointer at the initialiser, the sweeper's request withdrawn (log 18), the freeze forgotten. -/
def State.resetCommon (s : State) (cause : ResetCause) (pins : BitVec 2) : State :=
  let clearing := decide (cause = .clearing)
  { s with
    resetCtl := { s.resetCtl with cause := cause, resetUptime := s.resetCtl.uptime }
    sweeper := s.sweeper.afterReset (s.isOpen .a || s.isOpen .b)
    sessions := ⟨s.sessions.a.afterReset clearing, s.sessions.b.afterReset clearing⟩
    links := ⟨{}, {}⟩
    notices := {}
    service := { address := Config.serviceBase + pins.setWidth 7, settings := s.service.settings }
    arbiter := { s.arbiter with pointer := .initialiser, scrubTimer := none, scrubDue := false, sweepRequest := false }
    engine := { s.engine with rememberedFreeze := false } }

/-- Initialisation starts from slot 0 with the pool emptied (R15, R124). -/
def State.startInitialisation (s : State) : State :=
  (s.setJournal { s.journal with pool := [] }).setEngine { s.engine with state := .initializing, initPos := 0 }

/-- A warm reset (R22, R126, R137, R170): in INITIALIZING initialisation starts again; in READY or FROZEN the engine is
READY and the scrub pace timer starts at once. Taken in FROZEN it makes the tests of a THAW for the block in progress. -/
def State.warmReset (s : State) (cause : ResetCause) (pins : BitVec 2) : State :=
  let t := s.resetCommon cause pins
  match s.engine.state with
  | .initializing => t.startInitialisation
  | .ready => t.startScrubTimer
  | .frozen => ((t.setEngine { t.engine with state := .ready }).startScrubTimer).testProgress

/-- The blocks after a clearing reset: those in progress and queued are RETIRED (R170, R172). -/
def Integrity.afterClearing (i : Integrity) : Integrity :=
  { i with
    blocks := Vector.ofFn fun b : Fin 16 =>
      if (i.block b).state.inProgress ∨ b.val ∈ i.retireQueue then { i.block b with state := .retired } else i.block b
    retireQueue := []
    reserve := 0 }

/-- A clearing reset (R23, R126, R137, R170): the journal is emptied, the generation advances, the arming is ARMED, and
initialisation starts. No slot is written by the reset itself (log 6). -/
def State.clearingReset (s : State) (pins : BitVec 2) : State :=
  let t := s.resetCommon .clearing pins
  ({ t with
     journal := { s.journal with index := [], orphans := [], stamp := 1#64
                                 generation := nextGeneration s.journal.generation, compromised := false }
     integrity := s.integrity.afterClearing
     engine := { t.engine with armed := true } }).startInitialisation

/-- POWER_ON_RESET (R137). The model's own queue stands, and the free value of log 5 is drawn afresh. -/
def execPowerOnReset (pins : BitVec 2) (s : State) : Host.Outcome State Fault Refusal :=
  .next (State.poweredOn pins (s.freeCount + 1) s.pending)

/-- WARM_PIN (R136). -/
def execWarmPin (pins : BitVec 2) (s : State) : Host.Outcome State Fault Refusal :=
  .next (s.warmReset .warmPin pins)

/-- WARM_RESET_KEEP (R184): a write not acknowledged while BUSY; accepted, the reset discards the request. -/
def execWarmResetKeep (pins : BitVec 2) (s : State) : Host.Outcome State Fault Refusal :=
  .next <| match s.write (requestBytes 0x31 [0x01]) with
    | none => s
    | some t => t.warmReset .warmService pins

/-- WARM_RESET_CLEAR (R23, R184). -/
def execWarmResetClear (pins : BitVec 2) (s : State) : Host.Outcome State Fault Refusal :=
  .next <| match s.write (requestBytes 0x31 [0x02]) with
    | none => s
    | some t => t.clearingReset pins

end Sys2Proof.Machine
end

