-- ==== Sys2Proof/Machine/Service.lean ====
section
/-! DEFINITION. The service requests of the enclosure manager (chapter 9), and the layouts of the views and of the READ_SLOT
report (Table 11-9). -/

namespace Sys2Proof.Machine

/-- A value in two bytes (R201). -/
def valueBytes (n : Nat) : List Byte := bytesOf 2 n

/-! Settings (R180, R181) -/

/-- GET_SETTING past its acceptance (R180). -/
def State.runGetSetting (number : Byte) (s : State) : ServiceResult × State :=
  match SettingName.ofNumber number with
  | some n => ({ status := .ok, data := valueBytes (s.settings.get n) }, s)
  | none => ({ status := .range }, s)

/-- GET_SETTING (R180). -/
def execGetSetting (number : Byte) (s : State) : Host.Outcome State Fault Refusal :=
  .next (s.serviceEvent 0x01 [number] (State.runGetSetting number))

/-- The threshold tests that a lowered BUCKET_THRESHOLD makes, in increasing block number (R155). A block it queues enters
CLOSING at the start of the next grant. -/
def State.retestBuckets (s : State) : State :=
  (List.range 16).foldl (fun t b =>
    if (t.block b).state = .inService ∧ b ∉ t.integrity.retireQueue ∧ t.settings.bucketThreshold ≤ (t.block b).bucket then
      t.queueBlock b
    else t) s

/-- What a change of SCRUB_PACE does at once (R131). -/
def State.changeScrubPace (s : State) (old new : Nat) : State :=
  if new = 0 then s.setArbiter { s.arbiter with scrubTimer := none, scrubDue := false }
  else if old = 0 ∧ s.running then s.setArbiter { s.arbiter with scrubTimer := some new }
  else s

/-- What a change of a setting does in the event of the change (R181); the other settings are read at their next use. -/
def State.applySetting (s : State) (n : SettingName) (old new : Nat) : State :=
  match n with
  | .bucketThreshold => if new < old then s.retestBuckets else s
  | .scrubPace => s.changeScrubPace old new
  | .alertEnable => s.judgeAlert
  | .lapsePeriodA => s
  | .lapsePeriodB => s
  | .drainLimit => s
  | .noticeRepeat => s
  | .quotaA => s
  | .quotaB => s
  | .lowWater => s
  | .leakPeriod => s
  | .fencePeerEnable => s

/-- SET_SETTING past its acceptance (R180, R181): a value equal to the one held is no change. -/
def State.runSetSetting (number : Byte) (value : Half) (s : State) : ServiceResult × State :=
  match SettingName.ofNumber number with
  | none => ({ status := .range }, s)
  | some n =>
    let old := s.settings.get n
    let new := value.toNat
    if n.bounds.1 ≤ new ∧ new ≤ n.bounds.2 then
      if new = old then ({ status := .ok, data := valueBytes new }, s)
      else
        let t := s.setService { s.service with settings := s.settings.put n new }
        ({ status := .ok, data := valueBytes new }, t.applySetting n old new)
    else ({ status := .range, data := valueBytes old }, s)

/-- SET_SETTING (R180). -/
def execSetSetting (number : Byte) (value : Half) (s : State) : Host.Outcome State Fault Refusal :=
  .next (s.serviceEvent 0x02 (number :: valueBytes value.toNat) (State.runSetSetting number value))

/-! Views (R182, Table 11-9) -/

/-- A timer in a view: the remaining milliseconds, 0xFFFF when stopped (R199). -/
def timerBytes (t : Option Nat) : List Byte := bytesOf 2 (t.getD 0xFFFF)

/-- One port of the SESSIONS view. -/
def State.sessionView (s : State) (p : Port) : List Byte :=
  let x := s.session p
  let l := s.link p
  let f := s.notices.flags.get p
  bytesOf 1 x.state.code ++ bytesOf 2 x.epoch.toNat ++
  bytesOf 1 (bitIf x.lapseMark 0 + bitIf x.clearedSince 1 + bitIf x.fenceLine 2) ++
  bytesOf 2 x.holdings ++ bytesOf 2 x.adoptions ++ timerBytes x.lapseTimer ++ timerBytes x.drainTimer ++
  bytesOf 1 l.state.code ++ bytesOf 1 l.requests.length ++ bytesOf 1 l.cache.length ++ bytesOf 1 l.outbound.length ++
  bytesOf 1 f.setCode ++ bytesOf 2 ((f.peerLapsed.join.getD 0).toNat) ++ bytesOf 1 ((f.peerFenced.join.getD 0).toNat) ++
  bytesOf 1 (s.notices.serials.get p).toNat

/-- The SESSIONS view. -/
def State.sessionsView (s : State) : List Byte := s.sessionView .a ++ s.sessionView .b

/-- The JOURNAL view. -/
def State.journalView (s : State) : List Byte :=
  bytesOf 1 s.engine.state.code ++
  bytesOf 1 (bitIf s.engine.rememberedFreeze 0 + bitIf s.journal.compromised 1 + bitIf s.engine.armed 2 +
    bitIf s.sweeper.pending 3) ++
  bytesOf 2 (if s.engine.state = .initializing then s.engine.initPos else 0xFFFF) ++
  bytesOf 2 s.liveCount ++ bytesOf 2 s.pooled ++ bytesOf 2 s.orphanCount ++ bytesOf 8 s.journal.stamp.toNat ++
  bytesOf 2 s.journal.generation.toNat ++ bytesOf 2 s.sweeper.position ++ bytesOf 2 s.sweeper.endMarker

/-- The BLOCKS view. -/
def State.blocksView (s : State) : List Byte :=
  ((List.range 16).flatMap fun b => bytesOf 1 (s.block b).state.code ++ bytesOf 1 (s.block b).bucket) ++
  bytesOf 1 s.integrity.retireQueue.length ++
  ((List.range 4).flatMap fun i => bytesOf 1 (s.integrity.retireQueue[i]?.getD 0xFF)) ++
  bytesOf 1 (s.inProgress.getD 0xFF) ++ bytesOf 1 s.integrity.reserve ++ bytesOf 1 s.retirementCount ++
  bytesOf 2 s.integrity.scrubPosition

/-- One class of the FAULTS view; the fields of an absent first record are absent (log 21). -/
def ClassRecord.view (r : ClassRecord) : List Byte :=
  match r.first with
  | none =>
    bytesOf 1 0 ++ bytesOf 1 r.later.toNat ++ bytesOf 1 0 ++ bytesOf 1 0xFF ++ bytesOf 2 0xFFFF ++ bytesOf 1 0xFF ++
      bytesOf 1 0 ++ bytesOf 4 0 ++ bytesOf 6 0
  | some f =>
    bytesOf 1 (2 ^ 7 + f.kind.code) ++ bytesOf 1 r.later.toNat ++
    bytesOf 1 (bitIf f.port.isSome 0 + bitIf f.slot.isSome 1 + bitIf f.block.isSome 2 + bitIf f.key.isSome 3) ++
    bytesOf 1 ((f.port.map portCode).getD 0xFF) ++ bytesOf 2 (f.slot.getD 0xFFFF) ++ bytesOf 1 (f.block.getD 0xFF) ++
    bytesOf 1 ((f.key.map fun k => k.volume.toNat).getD 0) ++ bytesOf 4 ((f.key.map fun k => k.region.toNat).getD 0) ++
    bytesOf 6 f.uptime.toNat

/-- The FAULTS view. -/
def State.faultsView (s : State) : List Byte :=
  s.faults.link.view ++ s.faults.storeCorrected.view ++ s.faults.storeLost.view ++ s.faults.session.view ++
  s.faults.capacity.view ++ bytesOf 1 s.settings.alertEnable.toNat ++ bytesOf 1 (bitIf s.faults.alert 0)

/-- The RESET_CAUSE view. -/
def State.resetView (s : State) : List Byte :=
  bytesOf 1 s.resetCtl.cause.code ++ bytesOf 6 s.resetCtl.resetUptime.toNat ++ bytesOf 6 s.resetCtl.uptime.toNat

/-- READ_VIEW past its acceptance (R182). -/
def State.runReadView (view : Byte) (s : State) : ServiceResult × State :=
  match view.toNat with
  | 1 => ({ status := .ok, data := s.sessionsView }, s)
  | 2 => ({ status := .ok, data := s.journalView }, s)
  | 3 => ({ status := .ok, data := s.blocksView }, s)
  | 4 => ({ status := .ok, data := s.faultsView }, s)
  | 5 => ({ status := .ok, data := s.resetView }, s)
  | _ => ({ status := .range }, s)

/-- READ_VIEW (R182). -/
def execReadView (view : Byte) (s : State) : Host.Outcome State Fault Refusal :=
  .next (s.serviceEvent 0x03 [view] (State.runReadView view))

/-! Identity, sessions, faults (R202, R70, R71, R192) -/

/-- IDENTIFY (R202). -/
def execIdentify (s : State) : Host.Outcome State Fault Refusal :=
  .next (s.serviceEvent 0x05 [] fun t => ({ status := .ok, data := [0x24, 0x10, 0x01, 0x00] }, t))

/-- FENCE past its acceptance (R70). -/
def State.runFence (port : Byte) (s : State) : ServiceResult × State :=
  match portOf port with
  | none => ({ status := .range }, s)
  | some p =>
    if (s.session p).state = .fenced then ({ status := .already }, s)
    else ({ status := .ok }, (s.fencePort p fenceCauseService .fenceByService).judgeRepeat)

/-- FENCE (R70). -/
def execFence (port : Byte) (s : State) : Host.Outcome State Fault Refusal :=
  .next (s.serviceEvent 0x10 [port] (State.runFence port))

/-- UNFENCE past its acceptance (R71): DETACHED and the line released in the same event. -/
def State.runUnfence (port : Byte) (s : State) : ServiceResult × State :=
  match portOf port with
  | none => ({ status := .range }, s)
  | some p =>
    if (s.session p).state = .fenced then
      ({ status := .ok }, s.setSession p { s.session p with state := .detached, fenceLine := false })
    else ({ status := .already }, s)

/-- UNFENCE (R71). -/
def execUnfence (port : Byte) (s : State) : Host.Outcome State Fault Refusal :=
  .next (s.serviceEvent 0x11 [port] (State.runUnfence port))

/-- CLEAR_MARK of the service port past its acceptance (R71). -/
def State.runServiceClearMark (port : Byte) (s : State) : ServiceResult × State :=
  match portOf port with
  | none => ({ status := .range }, s)
  | some p => ({ status := .ok }, s.setSession p { s.session p with lapseMark := false })

/-- SERVICE_CLEAR_MARK (R71). -/
def execServiceClearMark (port : Byte) (s : State) : Host.Outcome State Fault Refusal :=
  .next (s.serviceEvent 0x12 [port] (State.runServiceClearMark port))

/-- A class record after a CLEAR_FAULTS that does or does not name its class (R192). -/
def clearedIf (classes : Byte) (c : FaultClass) (r : ClassRecord) : ClassRecord :=
  if classes.getLsbD c.bit then {} else r

/-- CLEAR_FAULTS past its acceptance (R192). -/
def State.runClearFaults (classes : Byte) (s : State) : ServiceResult × State :=
  if 32 ≤ classes.toNat then ({ status := .range }, s)
  else
    let f := s.faults
    ({ status := .ok },
     (s.setFaults { f with
        link := clearedIf classes .link f.link
        storeCorrected := clearedIf classes .storeCorrected f.storeCorrected
        storeLost := clearedIf classes .storeLost f.storeLost
        session := clearedIf classes .session f.session
        capacity := clearedIf classes .capacity f.capacity }).judgeAlert)

/-- CLEAR_FAULTS (R192). -/
def execClearFaults (classes : Byte) (s : State) : Host.Outcome State Fault Refusal :=
  .next (s.serviceEvent 0x30 [classes] (State.runClearFaults classes))

/-! Writes that execute nothing, and writes accepted for a grant (R176) -/

/-- A well-formed WARM_RESET whose option is neither KEEP nor CLEAR (R184; log 19). -/
def otherWarmReset (bytes : List Byte) : Bool :=
  match bytes with
  | [code, count, option] =>
    decide (code = 0x31) && decide (count = 1) && decide (option ≠ 1) && decide (option ≠ 2)
  | _ => false

/-- UNKNOWN (R176, steps 1 to 3), and a WARM_RESET with another option, answered RANGE (R184; log 19). A write that is
accepted as any other request is not this command's event. -/
def execUnknown (bytes : List Byte) (s : State) : Host.Outcome State Fault Refusal :=
  .next <| match s.write bytes with
    | none => s
    | some t =>
      if t.service.target = .busy then
        if otherWarmReset bytes then t.complete { status := .range } else s
      else t

/-- SERVICE_REQUEST_ACCEPTED (R176): the result buffer is emptied, the port is BUSY, and the request waits for its grant. -/
def execServiceRequestAccepted (request : GrantRequest) (s : State) : Host.Outcome State Fault Refusal :=
  .next <| match s.write (requestBytes request.code request.params) with
    | none => s
    | some t => t.setService { t.service with inProgress := some request }

/-! Requests at their grant -/

/-- The entry part of a READ_SLOT report (R203). The model's choice (log 13): the note's words come first in its eight bytes, so a
note of one word stands in the first four, and the last four are 0. -/
def entryReport (k : RegionKey) (e : EntryBody) : List Byte :=
  bytesOf 1 k.volume.toNat ++ bytesOf 4 k.region.toNat ++ bytesOf 1 (entryStateCode e.state) ++
  bytesOf 1 (holdCount e.holdA) ++ bytesOf 2 ((e.holdA.map fun h => h.epoch.toNat).getD 0) ++
  bytesOf 1 (holdCount e.holdB) ++ bytesOf 2 ((e.holdB.map fun h => h.epoch.toNat).getD 0) ++
  bytesOf 1 (bitIf e.lostHolder 0 + bitIf e.damaged 1) ++ bytesOf 8 e.stamp.toNat ++ bytesOf 1 e.note.length ++
  bytesOf 4 ((e.note[0]?.getD 0).toNat) ++ bytesOf 4 ((e.note[1]?.getD 0).toNat) ++
  bytesOf 1 ((e.adopter.map fun a => portCode a.port).getD 0xFF) ++
  bytesOf 2 ((e.adopter.map fun a => a.epoch.toNat).getD 0)

/-- The entry part of the report of a slot that is not live (R203). -/
def emptyReport : List Byte := bytesOf 30 0 ++ bytesOf 1 0xFF ++ bytesOf 2 0

/-- The READ_SLOT report (R183, R203): the outcomes of the read, and the slot as step 3 left it. -/
def State.slotReport (s : State) (n : Nat) (o : ReadOutcome) : List Byte :=
  bytesOf 1 (voteCode o.vote) ++ bytesOf 1 (eccCode o.ecc) ++ bytesOf 1 (s.condition n).code ++
  bytesOf 1 (s.block (blockOf n)).state.code ++
  match s.keyAt n, s.entryAt n with
  | some k, some e => entryReport k e
  | _, _ => emptyReport

/-- READ_SLOT at its grant (R183). -/
def State.runReadSlot (slot : Nat) (w : SlotWear) (s : State) : ServiceResult × State :=
  if s.engine.state = .initializing then ({ status := .notReady }, s)
  else if Config.slotCount ≤ slot then ({ status := .range }, s)
  else
    let t := s.readRaw slot w
    ({ status := .ok, data := t.slotReport slot (s.readOutcome slot w) }, t)

/-- READ_SLOT (R183). -/
def execReadSlot (w : SlotWear) (s : State) : Host.Outcome State Fault Refusal :=
  .next <| match s.grantedService with
    | some (.readSlot n) => s.serviceGrant (State.runReadSlot n.toNat w)
    | _ => s

/-- FREEZE at its grant (R127, R129). -/
def State.runFreeze (s : State) : ServiceResult × State :=
  match s.engine.state with
  | .ready =>
    ({ status := .ok },
     (s.setEngine { s.engine with state := .frozen }).raiseBoth .freezeChanged (some (wordOf EngineState.frozen.code)))
  | .frozen => ({ status := .already }, s)
  | .initializing =>
    if s.engine.rememberedFreeze then ({ status := .already }, s)
    else ({ status := .ok }, s.setEngine { s.engine with rememberedFreeze := true })

/-- FREEZE (R127). -/
def execFreeze (s : State) : Host.Outcome State Fault Refusal :=
  .next <| match s.grantedService with
    | some .freeze => s.serviceGrant State.runFreeze
    | _ => s

/-- THAW at its grant (R128, R129); a retirement that was waiting resumes (R165, R166, R169). -/
def State.runThaw (s : State) : ServiceResult × State :=
  match s.engine.state with
  | .frozen =>
    ({ status := .ok },
     ((s.setEngine { s.engine with state := .ready }).raiseBoth .freezeChanged
       (some (wordOf EngineState.ready.code))).settle)
  | .ready => ({ status := .already }, s)
  | .initializing =>
    if s.engine.rememberedFreeze then ({ status := .ok }, s.setEngine { s.engine with rememberedFreeze := false })
    else ({ status := .already }, s)

/-- THAW (R128). -/
def execThaw (s : State) : Host.Outcome State Fault Refusal :=
  .next <| match s.grantedService with
    | some .thaw => s.serviceGrant State.runThaw
    | _ => s

/-- RETIRE_BLOCK at its grant (R164). -/
def State.runRetireBlock (block : Nat) (s : State) : ServiceResult × State :=
  if s.engine.state = .initializing then ({ status := .notReady }, s)
  else if Config.blockCount ≤ block then ({ status := .range }, s)
  else if (s.block block).state ≠ .inService ∨ block ∈ s.integrity.retireQueue then ({ status := .already }, s)
  else if Config.retireLimit ≤ s.retirementCount then ({ status := .limit }, s)
  else ({ status := .ok }, (s.queueBlock block).enterIfDue)

/-- RETIRE_BLOCK (R164). -/
def execRetireBlock (s : State) : Host.Outcome State Fault Refusal :=
  .next <| match s.grantedService with
    | some (.retireBlock b) => s.serviceGrant (State.runRetireBlock b.toNat)
    | _ => s

end Sys2Proof.Machine
end

