-- ==== Sys2Proof/Machine/Timers.lean ====
section
/-! DEFINITION. Timer expiries, and the tick of one millisecond. -/

namespace Sys2Proof.Machine

/-- A lapse, or the fence of a second one (R57, R58). -/
def State.lapse (s : State) (p : Port) : State :=
  if (s.session p).lapseMark then s.fencePort p fenceCauseLapse .fenceByLapse
  else
    let s1 := s.leaveTo p .lapsed
    let s2 := s1.setSession p { s1.session p with lapseMark := true }
    (s2.raise p.other .peerLapsed (some ((s.session p).epoch.setWidth 32))).capture { kind := .lapse, port := some p }

/-- LAPSE_TIMER_EXPIRY (R57, R58). A stopped timer does not expire (R59). -/
def execLapseTimerExpiry (p : Port) (s : State) : Host.Outcome State Fault Refusal :=
  .next <| match (s.session p).lapseTimer with
    | some _ => (s.lapse p).finish
    | none => s

/-- DRAIN_TIMER_EXPIRY (R64): the drain ends abnormally. -/
def execDrainTimerExpiry (p : Port) (s : State) : Host.Outcome State Fault Refusal :=
  .next <| match (s.session p).drainTimer with
    | some _ =>
      (((s.leaveTo p .detached).raise p.other .peerDetached (some ((s.session p).epoch.setWidth 32))).capture
        { kind := .drainExpired, port := some p }).finish
    | none => s

/-- One frame of a kind whose flag is set at a port, with the stored payload (R144). -/
def State.resend (s : State) (p : Port) (k : NoticeKind) : State :=
  match (s.notices.flags.get p).get k with
  | some w => s.sendNotice p k w
  | none => s

/-- The repeating kinds in kind order (R140, R144). -/
def repeatOrder : List NoticeKind := [.peerLapsed, .peerFenced, .entryDamaged, .journalCompromised]

/-- REPEAT_TIMER_EXPIRY (R144): the timer restarts with its period read afresh, and each attached port is sent its set
kinds. -/
def execRepeatTimerExpiry (s : State) : Host.Outcome State Fault Refusal :=
  .next <| match s.notices.repeatTimer with
    | some _ =>
      let s1 := s.setNotices { s.notices with repeatTimer := some (s.settings.noticeRepeat * 10) }
      let s2 := repeatOrder.foldl (fun t k => t.resend .a k) s1
      (repeatOrder.foldl (fun t k => t.resend .b k) s2).finish
    | none => s

/-- A block record after a leak (R154). -/
def Block.leak (b : Block) : Block := if b.state = .retired then b else { b with bucket := b.bucket - 1 }

/-- LEAK_TIMER_EXPIRY (R154): not while INITIALIZING, where the timer stands still. -/
def execLeakTimerExpiry (s : State) : Host.Outcome State Fault Refusal :=
  .next <| match s.integrity.leakTimer with
    | some _ =>
      if s.running then
        s.setIntegrity { s.integrity with blocks := s.integrity.blocks.map Block.leak
                                          leakTimer := some (s.settings.leakPeriod * 1000) }
      else s
    | none => s

/-- SCRUB_PACE_EXPIRY (R131): the timer has run out and the indicator is set. -/
def execScrubPaceExpiry (s : State) : Host.Outcome State Fault Refusal :=
  .next <| match s.arbiter.scrubTimer with
    | some _ => s.setArbiter { s.arbiter with scrubTimer := none, scrubDue := true }
    | none => s

/-- A session record a millisecond later. -/
def Session.tick (x : Session) : Session :=
  { x with lapseTimer := x.lapseTimer.map (· - 1), drainTimer := x.drainTimer.map (· - 1) }

/-- A link a millisecond later. -/
def Link.tick (l : Link) : Link := { l with trainingLimit := l.trainingLimit.map (· - 1) }

/-- One millisecond without a command (log 7): the uptime counter rises (R139) and every running timer's remaining time
falls, to 0 at the least; the leak timer stands still while INITIALIZING (R154). The expiries are commands (log 8). -/
def State.tick (s : State) : State :=
  { s with
    links := ⟨s.links.a.tick, s.links.b.tick⟩
    sessions := ⟨s.sessions.a.tick, s.sessions.b.tick⟩
    arbiter := { s.arbiter with scrubTimer := s.arbiter.scrubTimer.map (· - 1000) }
    integrity := { s.integrity with
      leakTimer := if s.running then s.integrity.leakTimer.map (· - 1) else s.integrity.leakTimer }
    notices := { s.notices with repeatTimer := s.notices.repeatTimer.map (· - 1) }
    resetCtl := { s.resetCtl with uptime := s.resetCtl.uptime + 1#48 } }

end Sys2Proof.Machine
end

