-- ==== Sys2Proof/Machine/Dispatch.lean ====
section
/-! DEFINITION. One meaning for each command: exec is everything a command does but the queue's own change. -/

namespace Sys2Proof.Machine

def exec (i : Instr) (s : State) : Host.Outcome State Fault Refusal :=
  match i with
  | .powerOnReset pins => Sys2Proof.Machine.execPowerOnReset pins s
  | .warmPin pins => Sys2Proof.Machine.execWarmPin pins s
  | .warmResetKeep pins => Sys2Proof.Machine.execWarmResetKeep pins s
  | .warmResetClear pins => Sys2Proof.Machine.execWarmResetClear pins s
  | .signalDetect port => Sys2Proof.Machine.execSignalDetect port s
  | .trainingCompletes port => Sys2Proof.Machine.execTrainingCompletes port s
  | .trainingLimitExpiry port => Sys2Proof.Machine.execTrainingLimitExpiry port s
  | .lossOfLock port => Sys2Proof.Machine.execLossOfLock port s
  | .requestFrame port words => Sys2Proof.Machine.execRequestFrame port words s
  | .frameTransmit port => Sys2Proof.Machine.execFrameTransmit port s
  | .badRequest port => Sys2Proof.Machine.execBadRequest port s
  | .attach port => Sys2Proof.Machine.execAttach port s
  | .detachGraceful port => Sys2Proof.Machine.execDetachGraceful port s
  | .detachAbrupt port => Sys2Proof.Machine.execDetachAbrupt port s
  | .pulse port => Sys2Proof.Machine.execPulse port s
  | .openIntent port wear => Sys2Proof.Machine.execOpen port wear s
  | .closeIntent port wear => Sys2Proof.Machine.execClose port wear s
  | .query port wear => Sys2Proof.Machine.execQuery port wear s
  | .adopt port wears => Sys2Proof.Machine.execAdopt port wears s
  | .resolve port wear => Sys2Proof.Machine.execResolve port wear s
  | .clearMark port => Sys2Proof.Machine.execClearMark port s
  | .fencePeer port => Sys2Proof.Machine.execFencePeer port s
  | .ackNotice port => Sys2Proof.Machine.execAckNotice port s
  | .status port => Sys2Proof.Machine.execStatus port s
  | .lapseTimerExpiry port => Sys2Proof.Machine.execLapseTimerExpiry port s
  | .drainTimerExpiry port => Sys2Proof.Machine.execDrainTimerExpiry port s
  | .repeatTimerExpiry => Sys2Proof.Machine.execRepeatTimerExpiry s
  | .leakTimerExpiry => Sys2Proof.Machine.execLeakTimerExpiry s
  | .scrubPaceExpiry => Sys2Proof.Machine.execScrubPaceExpiry s
  | .scrubRead wear => Sys2Proof.Machine.execScrubRead wear s
  | .sweepStep wear => Sys2Proof.Machine.execSweepStep wear s
  | .sweepAdvance => Sys2Proof.Machine.execSweepAdvance s
  | .relocationMove wear => Sys2Proof.Machine.execRelocationMove wear s
  | .initialiserWrite => Sys2Proof.Machine.execInitialiserWrite s
  | .initialiserAdvance => Sys2Proof.Machine.execInitialiserAdvance s
  | .getSetting number => Sys2Proof.Machine.execGetSetting number s
  | .setSetting number value => Sys2Proof.Machine.execSetSetting number value s
  | .readView view => Sys2Proof.Machine.execReadView view s
  | .readSlot wear => Sys2Proof.Machine.execReadSlot wear s
  | .identify => Sys2Proof.Machine.execIdentify s
  | .fence port => Sys2Proof.Machine.execFence port s
  | .unfence port => Sys2Proof.Machine.execUnfence port s
  | .serviceClearMark port => Sys2Proof.Machine.execServiceClearMark port s
  | .freeze => Sys2Proof.Machine.execFreeze s
  | .thaw => Sys2Proof.Machine.execThaw s
  | .retireBlock => Sys2Proof.Machine.execRetireBlock s
  | .clearFaults classes => Sys2Proof.Machine.execClearFaults classes s
  | .unknown bytes => Sys2Proof.Machine.execUnknown bytes s
  | .serviceRequestAccepted request => Sys2Proof.Machine.execServiceRequestAccepted request s

end Sys2Proof.Machine
end

