-- ==== Sys2Proof/Safety.lean ====
section
/-! DEFINITION. The words in which claims about the part are made: when a request executes, what its grant does around it, and
the laws that every state of a running part obeys. -/

namespace Sys2Proof.Machine

/-! Requests and their grants -/

/-- A grant to port `p` now executes request `r`, which spells `k` (R106, R130, R133). -/
def Granted (s : State) (p : Port) (r : Request) (k : PeerRequest) : Prop :=
  s.grantedRequest p = some r ∧ r.classify = k

/-- A granted request passes the engine-state check and the session check (R134). -/
def Executes (s : State) (p : Port) (r : Request) (k : PeerRequest) : Prop :=
  Granted s p r k ∧ s.engine.state ≠ .initializing ∧ s.isOpen p = true ∧ r.epoch = (s.session p).epoch

/-- The state in which a grant of port `p` begins its own work: the pointer moved, an entry to CLOSING left for this grant made
(R130, R165), the grant's notices waiting for its reply (R135). -/
def State.grantStart (s : State) (p : Port) : State := s.holdNotices.beginGrant (portPlace p)

/-- The state after the reply and the notices of a grant of port `p` (R107, R135). -/
def State.answered (s : State) (p : Port) (r : Request) (a : Answer) : State := (s.deliverReply p r a).finish

/-- A session record that has left ATTACHED and DRAINING for `st`: counts 0, timers stopped, the fence line asserted for FENCED
alone (R51, R67). -/
def ended (x : Session) (st : SessionState) : Session :=
  { x with state := st, holdings := 0, adoptions := 0, lapseTimer := none, drainTimer := none
           fenceLine := decide (st = .fenced) }

/-- The state with port `p`'s session taken to `st`; if the session was open the sweeper is marked pending (R51, R85). -/
def State.ending (s : State) (p : Port) (st : SessionState) : State :=
  { s with
    sessions := s.sessions.set p (ended (s.session p) st)
    sweeper := if s.isOpen p = true then { s.sweeper with pending := true, endMarker := s.sweeper.position } else s.sweeper }

/-- The state with a service result in the buffer and the port IDLE (R176). -/
def State.withResult (s : State) (r : ServiceResult) : State :=
  { s with service := { s.service with target := .idle, collection := [], overlong := false, sent := 0, inProgress := none
                                       result := some r } }

/-- The state after the result of a service request that had a grant (R135, R176). -/
def State.served (s : State) (r : ServiceResult) : State := (s.complete r).finish

/-- What the low-water test of R45 leaves, the pooled free count of `v` having fallen to `n`: below LOW_WATER while ARMED, it
disarms and raises JOURNAL_LOW with the count for both ports; else engine, notices and links stand. -/
def LowWater (v y : State) (n : Nat) : Prop :=
  if v.engine.armed = true ∧ n < v.settings.lowWater then
    y.engine = { v.engine with armed := false } ∧
    y.notices = (v.raiseBoth .journalLow (some (wordOf n))).notices ∧ y.links = (v.raiseBoth .journalLow (some (wordOf n))).links
  else y.engine = v.engine ∧ y.notices = v.notices ∧ y.links = v.links

/-- The arming after the re-arm test of R46, the pooled free count of `v` having risen to `n`. -/
def State.rearmedAt (v : State) (n : Nat) : Bool := v.engine.armed || decide (v.settings.lowWater + 16 ≤ n)

/-- The arbiter when slot `n` ceases to be live: a request that the sweeper had made for that slot stands (R86, log 18). -/
def State.arbiterWithout (v : State) (n : Nat) : Arbiter :=
  { v.arbiter with sweepRequest :=
      v.arbiter.sweepRequest || (v.sweeper.pending && decide (v.engine.state ≠ .initializing) && decide (n = v.sweeper.position)) }

/-- The state `v` with the entry in slot `n` gone (R14, R39, R46, R93): the slot freed and no longer named; pooled at the tail in an
IN_SERVICE block, with the re-arm test, else withdrawn, the reserve lowered in a block in progress. -/
def State.withoutEntry (v : State) (n : Nat) : State :=
  let home := v.block (blockOf n)
  { v with
    journal := { v.journal with store := SlotMap.insert n freeSlot v.journal.store
                                index := SlotMap.erase n v.journal.index
                                pool := if home.state = .inService then v.journal.pool ++ [n] else v.journal.pool }
    integrity := { v.integrity with
      reserve := if home.state.inProgress = true then v.integrity.reserve - 1 else v.integrity.reserve }
    engine := { v.engine with
      armed := if home.state = .inService then v.rearmedAt (v.journal.pool.length + 1) else v.engine.armed }
    arbiter := v.arbiterWithout n }

/-- The entry in slot `n` of `v` has been removed, which leaves `x`: the slot as `withoutEntry` says, then the tests of R165, R166
and R169 for the block in progress and the retire queue. Spelled out: what those tests leave alone; and, when no further block waits
to be retired, the pool, the reserve, and the notices, which are the BLOCK_RETIRED of a block that lost its last entry. -/
def EntryRemoved (v x : State) (n : Nat) : Prop :=
  let w := v.withoutEntry n
  x = w.settle ∧
  x.stored n = freeSlot ∧ (v.journal.index.wf = true → x.assoc n = none) ∧
  (∀ m, m ≠ n → x.stored m = v.stored m ∧ x.assoc m = v.assoc m) ∧
  x.journal.orphans = v.journal.orphans ∧ x.journal.stamp = v.journal.stamp ∧
  x.journal.generation = v.journal.generation ∧ x.journal.compromised = v.journal.compromised ∧
  x.sessions = v.sessions ∧ x.sweeper = v.sweeper ∧ x.service = v.service ∧ x.faults = v.faults ∧ x.resetCtl = v.resetCtl ∧
  x.arbiter = w.arbiter ∧ x.engine.state = v.engine.state ∧ x.freeCount = v.freeCount ∧ x.pending = v.pending ∧
  (v.integrity.retireQueue = [] →
    x.journal.pool = (if (v.block (blockOf n)).state = .inService then v.journal.pool ++ [n] else v.journal.pool) ∧
    x.integrity.reserve =
      (if (v.block (blockOf n)).state.inProgress = true then v.integrity.reserve - 1 else v.integrity.reserve) ∧
    x.engine = w.engine ∧
    ((v.engine.state ≠ .ready ∨ v.inProgress = none ∨ 0 < w.integrity.reserve) →
      x.notices = v.notices ∧ x.links = v.links) ∧
    (∀ b, v.engine.state = .ready → v.inProgress = some b → w.integrity.reserve = 0 → (x.block b).state = .retired ∧
      x.notices = (v.raiseBoth .blockRetired (some (wordOf b))).notices ∧
      x.links = (v.raiseBoth .blockRetired (some (wordOf b))).links))

/-- The head `b` of the retire queue of `v` has entered CLOSING, which leaves `y`, with `rest` still queued (R165, R166, R169): its
pooled slots withdrawn, with one low-water test if there were any (log 16; to the state `z`), the reserve its live entries, and the block
MOVING if the pool holds as many slots; without a live entry it is RETIRED at once, BLOCK_RETIRED being raised. -/
def EntersClosing (v y : State) (b : Nat) (rest : List Nat) : Prop :=
  let live := v.liveInBlock b
  y.journal = { v.journal with pool := v.journal.pool.filter fun n => blockOf n ≠ b } ∧
  y.integrity = { v.integrity with blocks := y.integrity.blocks, retireQueue := rest, reserve := live } ∧
  y.block b = { v.block b with state := if live = 0 then .retired else if live ≤ y.pooled then .moving else .closing } ∧
  (∀ c, c ≠ b → y.block c = v.block c) ∧
  y = { v with journal := y.journal, integrity := y.integrity, engine := y.engine, notices := y.notices, links := y.links } ∧
  ∃ z : State, z.sessions = v.sessions ∧ y.engine = z.engine ∧
    (y.pooled < v.pooled → LowWater v z y.pooled) ∧
    (y.pooled = v.pooled → z.engine = v.engine ∧ z.notices = v.notices ∧ z.links = v.links) ∧
    (0 < live → y.notices = z.notices ∧ y.links = z.links) ∧
    (live = 0 → y.notices = (z.raiseBoth .blockRetired (some (wordOf b))).notices ∧
      y.links = (z.raiseBoth .blockRetired (some (wordOf b))).links)

/-- The state with the initialiser's position moved by one; past slot 1023 the engine is READY, or FROZEN if a freeze is remembered,
and the scrub pace and leak timers run (R124, R129, R131, R154). -/
def State.initAdvanced (s : State) : State :=
  if s.engine.initPos < 1023 then { s with engine := { s.engine with initPos := s.engine.initPos + 1 } }
  else { s with
    engine := { s.engine with
      state := if s.engine.rememberedFreeze = true then .frozen else .ready
      rememberedFreeze := false
      initPos := s.engine.initPos + 1 }
    arbiter := { s.arbiter with scrubTimer := if s.settings.scrubPace = 0 then none else some s.settings.scrubPace }
    integrity := { s.integrity with leakTimer := some (s.integrity.leakTimer.getD (s.settings.leakPeriod * 1000)) } }

/-- Port `p`'s session record once an entry with holder summary `h` is lost or damaged (R95, R96, R160): its holdings count falls
for a live hold, its adoptions count for a live adoption; a count that falls completes a drain if both are then 0 (R64). -/
def State.lowered (s : State) (p : Port) (h : HolderSummary) : Session :=
  let x := s.session p
  let hold := s.isOpen p = true ∧ (match p with | .a => h.holdA | .b => h.holdB) = some x.epoch
  let adoption := s.isOpen p = true ∧ h.adopter = some ⟨p, x.epoch⟩
  let y : Session := { x with holdings := if hold then x.holdings - 1 else x.holdings
                              adoptions := if adoption then x.adoptions - 1 else x.adoptions }
  if (hold ∨ adoption) ∧ x.state = .draining ∧ y.holdings = 0 ∧ y.adoptions = 0 then ended y .detached else y

/-- The remainder register of the CRC after one bit of the message (R197): the polynomial is taken off when the bit that leaves the
register and the bit that enters differ. -/
def crcBit (r : Word) (bit : Bool) : Word := if r.msb = bit then r <<< 1 else (r <<< 1) ^^^ 0x04C11DB7#32

/-- The bits of a sequence of words in the order in which the CRC takes them (R197): byte by byte as sent, the most significant bit
of each first. -/
def wordBits (ws : List Word) : List Bool :=
  (ws.flatMap fun w => [w.extractLsb' 24 8, w.extractLsb' 16 8, w.extractLsb' 8 8, w.extractLsb' 0 8]).flatMap
    fun b : Byte => [b.getLsbD 7, b.getLsbD 6, b.getLsbD 5, b.getLsbD 4, b.getLsbD 3, b.getLsbD 2, b.getLsbD 1, b.getLsbD 0]

/-- The bytes of a layout: each value most significant byte first in its number of bytes (R201). -/
def layout (fields : List (Nat × Nat)) : List Byte := fields.flatMap fun f => bytesOf f.1 f.2

/-- The command of the table whose event is the grant of a request that spells `k`. The storage outcomes go to the commands that
read slots. -/
def commandFor (p : Port) (wear : SlotWear) (wears : List SlotWear) : PeerRequest → Instr
  | .bad => .badRequest p
  | .attach _ => .attach p
  | .detachGraceful => .detachGraceful p
  | .detachAbrupt => .detachAbrupt p
  | .pulse => .pulse p
  | .openIntent _ _ => .openIntent p wear
  | .closeIntent _ => .closeIntent p wear
  | .query _ => .query p wear
  | .adopt => .adopt p wears
  | .resolve _ => .resolve p wear
  | .clearMark => .clearMark p
  | .fencePeer => .fencePeer p
  | .ackNotice _ => .ackNotice p
  | .status => .status p

/-- The commands that are grants of the head of port `p`'s request queue. -/
def isRequestOf (p : Port) : Instr → Prop
  | .badRequest q => q = p
  | .attach q => q = p
  | .detachGraceful q => q = p
  | .detachAbrupt q => q = p
  | .pulse q => q = p
  | .openIntent q _ => q = p
  | .closeIntent q _ => q = p
  | .query q _ => q = p
  | .adopt q _ => q = p
  | .resolve q _ => q = p
  | .clearMark q => q = p
  | .fencePeer q => q = p
  | .ackNotice q => q = p
  | .status q => q = p
  | _ => False

/-- The bytes of the write that brings a request that needs a grant (R179, Table 11-7). -/
def grantBytes : GrantRequest → List Byte
  | .readSlot n => [0x04, 0x02, n.extractLsb' 8 8, n.extractLsb' 0 8]
  | .freeze => [0x20, 0x00]
  | .thaw => [0x21, 0x00]
  | .retireBlock b => [0x22, 0x01, b]

/-- The bytes of the write that brings a command of the service port, for the commands that arrive as a write (R176, R179). -/
def writeOf : Instr → Option (List Byte)
  | .warmResetKeep _ => some [0x31, 0x01, 0x01]
  | .warmResetClear _ => some [0x31, 0x01, 0x02]
  | .getSetting n => some [0x01, 0x01, n]
  | .setSetting n v => some [0x02, 0x03, n, v.extractLsb' 8 8, v.extractLsb' 0 8]
  | .readView v => some [0x03, 0x01, v]
  | .identify => some [0x05, 0x00]
  | .fence p => some [0x10, 0x01, p]
  | .unfence p => some [0x11, 0x01, p]
  | .serviceClearMark p => some [0x12, 0x01, p]
  | .clearFaults c => some [0x30, 0x01, c]
  | .unknown bytes => some bytes
  | .serviceRequestAccepted request => some (grantBytes request)
  | _ => none

/-- The sequence numbers of a port's queued requests. -/
def Link.queued (l : Link) : List Byte := l.requests.map Request.seq
/-- The sequence numbers of a port's cached replies. -/
def Link.cached (l : Link) : List Byte := l.cache.map Reply.seq

/-! Laws of a running part -/

/-- R116: at most 8 requests queued and 8 replies cached, each with distinct sequence numbers, none in both. -/
def LinkLaw (s : State) : Prop := ∀ p,
  (s.link p).requests.length ≤ 8 ∧ (s.link p).cache.length ≤ 8 ∧ (s.link p).queued.Nodup ∧ (s.link p).cached.Nodup ∧
  ∀ n ∈ (s.link p).queued, n ∉ (s.link p).cached

/-- R100, R117, R119, R120: at most 16 frames wait; a link that is not UP has none and sends none; the training limit runs in
TRAINING alone. -/
def OutboundLaw (s : State) : Prop := ∀ p,
  (s.link p).outbound.length ≤ 16 ∧
  ((s.link p).state ≠ .up → (s.link p).outbound = [] ∧ (s.link p).sending = none) ∧
  ((s.link p).trainingLimit.isSome = true ↔ (s.link p).state = .training)

/-- R48, R50, R56, R63, R125: a session that is not open has counts 0 and a stopped lapse timer; an open one has a nonzero epoch
and a running lapse timer; the drain timer runs in DRAINING alone; the holdings count is at most 1024; no session is open while
the engine is INITIALIZING. -/
def SessionLaw (s : State) : Prop := ∀ p,
  (s.isOpen p = false → (s.session p).holdings = 0 ∧ (s.session p).adoptions = 0) ∧
  ((s.session p).lapseTimer.isSome = s.isOpen p) ∧
  ((s.session p).drainTimer.isSome = true ↔ (s.session p).state = .draining) ∧
  (s.isOpen p = true → (s.session p).epoch ≠ 0#16) ∧
  (s.session p).holdings ≤ 1024 ∧
  (s.engine.state = .initializing → s.isOpen p = false)

/-- The number of live entries in which port `p` has a live hold (R8, R49). -/
def State.liveHolds (s : State) (p : Port) : Nat :=
  s.journal.index.countP fun x => match s.entryAt x.1 with
    | some e => s.isOpen p && decide ((e.hold p).map Held.epoch = some (s.session p).epoch)
    | none => false

/-- The number of live entries whose live adopter is port `p` (R8, R49). -/
def State.liveAdoptions (s : State) (p : Port) : Nat :=
  s.journal.index.countP fun x => match s.entryAt x.1 with
    | some e => s.isOpen p && decide (e.adopter = some ⟨p, (s.session p).epoch⟩)
    | none => false

/-- R48, R49: each port's holdings count is the number of entries with a live hold of the port, its adoptions count the number of
those with the port as live adopter, at most 1024. -/
def CountLaw (s : State) : Prop := ∀ p,
  (s.session p).holdings = s.liveHolds p ∧ (s.session p).adoptions = s.liveAdoptions p ∧ (s.session p).adoptions ≤ 1024

/-- No live entry records a hold or an adopter under the epoch that a port's next session would have. Epochs repeat after 65535
attaches (R50), so this holds where sweeps convert dead holds before their epoch comes round again; no rule of the spec says that
they do. -/
def EpochsFresh (s : State) : Prop := ∀ x ∈ s.journal.index, ∀ e, (s.stored x.1).body = .entry e → ∀ p,
  (∀ h, e.hold p = some h → h.epoch ≠ nextEpoch (s.session p).epoch) ∧
  e.adopter ≠ some ⟨p, nextEpoch (s.session p).epoch⟩

/-- R67, R193, R176, R188: a fence line is asserted exactly while its port is FENCED, ALERT_N exactly while an enabled class holds a
record; the service port is BUSY exactly while a request waits for its grant; a class without a first record has no later kinds. -/
def LineLaw (s : State) : Prop :=
  (∀ p, ((s.session p).fenceLine = true ↔ (s.session p).state = .fenced)) ∧
  (s.faults.alert = true ↔ ∃ c : FaultClass, s.settings.alertEnable.getLsbD c.bit = true ∧ (s.faults.get c).first.isSome = true) ∧
  (s.service.target = .busy ↔ s.service.inProgress.isSome = true) ∧
  (∀ c : FaultClass, (s.faults.get c).first = none → (s.faults.get c).later = 0#5)

/-- R180: every setting lies within its range. -/
def SettingsLaw (s : State) : Prop := ∀ n : SettingName, n.bounds.1 ≤ s.settings.get n ∧ s.settings.get n ≤ n.bounds.2

/-- R17, R19, R124, R129, R131, R154, and log 27: the initialiser stands at a slot exactly while INITIALIZING; a freeze is
remembered only then; outside it the leak timer runs, and, SCRUB_PACE being nonzero, either the pace timer runs or a scrub is due;
neither is so while SCRUB_PACE is 0 or the engine is INITIALIZING; stamp counter and generation are not 0. The sweeper's request
stands only while a sweep is pending outside INITIALIZING (R86, log 18). -/
def EngineLaw (s : State) : Prop :=
  (s.engine.state = .initializing ↔ s.engine.initPos < 1024) ∧
  (s.engine.rememberedFreeze = true → s.engine.state = .initializing) ∧
  (s.engine.state ≠ .initializing → s.integrity.leakTimer.isSome = true) ∧
  ((s.arbiter.scrubTimer.isSome = true ∨ s.arbiter.scrubDue = true) ↔
    (s.engine.state ≠ .initializing ∧ s.settings.scrubPace ≠ 0)) ∧
  ¬(s.arbiter.scrubTimer.isSome = true ∧ s.arbiter.scrubDue = true) ∧
  s.journal.stamp ≠ 0#64 ∧ s.journal.generation ≠ 0#16 ∧
  (s.arbiter.sweepRequest = true → s.sweeper.pending = true ∧ s.engine.state ≠ .initializing)

/-- R144 and log 11: the repeat timer runs exactly while an open session's port has a flag set; between events no raise waits. -/
def NoticeLaw (s : State) : Prop :=
  (s.notices.repeatTimer.isSome = true ↔ ∃ p, s.isOpen p = true ∧ (s.notices.flags.get p).any = true) ∧
  s.notices.held = none

/-- Every slot number that the state holds names a slot (R1, R84, R171), and both slot-keyed tables are canonical, which is the
model's own representation (log 25). -/
def SlotLaw (s : State) : Prop :=
  s.journal.store.wf = true ∧ s.journal.index.wf = true ∧
  (∀ x ∈ s.journal.store, x.1 < 1024) ∧ (∀ x ∈ s.journal.index, x.1 < 1024) ∧ (∀ n ∈ s.journal.pool, n < 1024) ∧
  s.sweeper.position < 1024 ∧ s.sweeper.endMarker < 1024 ∧ s.integrity.scrubPosition < 1024

/-- R13, R14, R95: no slot is pooled twice or both pooled and live; no two live entries share a key; every live slot's body holds
an entry, whose holder summary the index keeps. While INITIALIZING no entry is live and only slots already passed are pooled. -/
def JournalLaw (s : State) : Prop :=
  s.journal.pool.Nodup ∧
  (∀ x ∈ s.journal.index, x.1 ∉ s.journal.pool) ∧
  (s.journal.index.map fun x => x.2.key).Nodup ∧
  (∀ x ∈ s.journal.index, ∃ e, (s.stored x.1).body = .entry e ∧ x.2.summary = e.summary) ∧
  (s.engine.state = .initializing → s.journal.index = [] ∧ ∀ n ∈ s.journal.pool, n < s.engine.initPos)

/-- R6, R7, R11: the fields that each entry state requires of a live entry; hold counts of 1..15 under nonzero epochs; a note of
at most two words. R18: a stamp of 0 with the damaged mark or below the stamp counter; no nonzero stamp twice. -/
def EntryLaw (s : State) : Prop :=
  (∀ x ∈ s.journal.index, ∀ e, (s.stored x.1).body = .entry e →
    (e.state = .opened → (e.holdA.isSome = true ∨ e.holdB.isSome = true) ∧ e.adopter = none) ∧
    (e.state = .orphan → e.holdA = none ∧ e.holdB = none ∧ e.adopter = none) ∧
    (e.state = .adopted → e.holdA = none ∧ e.holdB = none ∧ e.adopter.isSome = true) ∧
    (∀ p h, e.hold p = some h → 1 ≤ h.count ∧ h.count ≤ 15 ∧ h.epoch ≠ 0#16) ∧
    (∀ a, e.adopter = some a → a.epoch ≠ 0#16) ∧
    e.note.length ≤ 2 ∧
    (e.stamp = 0#64 → e.damaged = true) ∧
    (e.stamp ≠ 0#64 → e.stamp.toNat < s.journal.stamp.toNat)) ∧
  ∀ x ∈ s.journal.index, ∀ y ∈ s.journal.index, ∀ e f, (s.stored x.1).body = .entry e → (s.stored y.1).body = .entry f →
    e.stamp = f.stamp → e.stamp ≠ 0#64 → x.1 = y.1

/-- R79: the orphan list is ordered by nondecreasing stamp, holds no key twice, and holds exactly the ORPHAN entries. -/
def OrphanLaw (s : State) : Prop :=
  (s.journal.orphans.Pairwise fun a b => a.stamp.toNat ≤ b.stamp.toNat) ∧
  (s.journal.orphans.map Orphan.key).Nodup ∧
  (∀ o : Orphan, o ∈ s.journal.orphans ↔
    ∃ x ∈ s.journal.index, x.2.key = o.key ∧
      ∃ e, (s.stored x.1).body = .entry e ∧ e.state = .orphan ∧ e.stamp = o.stamp)

/-- R152, R153, R163: buckets stay in 0..15; at most one block is in progress; every queued block is IN_SERVICE and queued
once; the retirement count is at most 4; the reserve is 0 while no block is in progress. -/
def RetirementLaw (s : State) : Prop :=
  (∀ b, (s.block b).bucket ≤ 15) ∧
  (∀ b c, (s.block b).state.inProgress = true → (s.block c).state.inProgress = true → b = c) ∧
  s.integrity.retireQueue.Nodup ∧
  (∀ b ∈ s.integrity.retireQueue, b < 16 ∧ (s.block b).state = .inService) ∧
  s.retirementCount ≤ 4 ∧
  (s.inProgress = none → s.integrity.reserve = 0)

/-- R16, R165, R166, R169: live entries and pooled slots together are at most 1024 less 64 for each RETIRED block; every pooled
slot lies in an IN_SERVICE block and no live slot in a RETIRED one; no block is in progress while INITIALIZING; the reserve is the
number of live entries of the block in progress; in READY that block has live entries, and it is MOVING exactly while the pool
holds as many slots. -/
def ReserveLaw (s : State) : Prop :=
  s.journal.index.length + s.journal.pool.length + 64 * s.retiredCount ≤ 1024 ∧
  (∀ n ∈ s.journal.pool, (s.block (blockOf n)).state = .inService) ∧
  (∀ x ∈ s.journal.index, (s.block (blockOf x.1)).state ≠ .retired) ∧
  (s.engine.state = .initializing → s.inProgress = none) ∧
  (∀ b, s.inProgress = some b → s.integrity.reserve = s.liveInBlock b) ∧
  (s.engine.state = .ready → ∀ b, s.inProgress = some b →
    0 < s.integrity.reserve ∧ ((s.block b).state = .moving ↔ s.integrity.reserve ≤ s.pooled))

/-- All the laws together. -/
def Lawful (s : State) : Prop :=
  LinkLaw s ∧ OutboundLaw s ∧ SessionLaw s ∧ LineLaw s ∧ SettingsLaw s ∧ EngineLaw s ∧ NoticeLaw s ∧ SlotLaw s ∧
  JournalLaw s ∧ EntryLaw s ∧ OrphanLaw s ∧ RetirementLaw s ∧ ReserveLaw s

end Sys2Proof.Machine
end

