-- ==== Sys2Proof/Certificates/Slice0/Obligations.lean ====
section
/-! DEFINITION. The statements for the provers. Names such as `s.grantStart p` and `u.answered p r a` are those of Safety.lean:
the state in which a grant begins its own work, and the state after its reply and notices. -/

open Sys2Proof Sys2Proof.Machine

/-! The machine as a whole -/

/-- With a command at the front of the queue, a step is that command's effect on the state with the rest of the queue. -/
def Obligations.StepRunsTheFrontCommand : Prop :=
  ∀ (c : Instr) (rest : List Instr) (s : State),
    step { s with pending := c :: rest } = exec c { s with pending := rest }

/-- Log 7, the model's choice: with an empty queue a step is one millisecond. Uptime rises by 1 (R139), each running timer's
remaining time falls, the leak timer's not while INITIALIZING (R154), and nothing else changes. -/
def Obligations.EmptyQueueIsOneMillisecond : Prop :=
  ∀ s : State, s.pending = [] → ∃ t, step s = .next t ∧
    t.resetCtl = { s.resetCtl with uptime := s.resetCtl.uptime + 1#48 } ∧
    (∀ p, t.link p = { s.link p with trainingLimit := (s.link p).trainingLimit.map (· - 1) } ∧
      t.session p = { s.session p with
        lapseTimer := (s.session p).lapseTimer.map (· - 1)
        drainTimer := (s.session p).drainTimer.map (· - 1) }) ∧
    t.notices = { s.notices with repeatTimer := s.notices.repeatTimer.map (· - 1) } ∧
    t.arbiter = { s.arbiter with scrubTimer := s.arbiter.scrubTimer.map (· - 1000) } ∧
    t.integrity = { s.integrity with leakTimer :=
      if s.engine.state = .initializing then s.integrity.leakTimer else s.integrity.leakTimer.map (· - 1) } ∧
    t.journal = s.journal ∧ t.engine = s.engine ∧ t.sweeper = s.sweeper ∧ t.service = s.service ∧ t.faults = s.faults ∧
    t.freeCount = s.freeCount ∧ t.pending = []

/-- No command stops the part: each has a next state, in every state. That a command whose event cannot occur in a state has one
too is the model's choice (log 1). -/
def Obligations.EveryCommandHasANextState : Prop :=
  ∀ (c : Instr) (s : State), ∃ t, exec c s = .next t

/-- The part right after reset, block by block, as the chapters' reset tables give it. -/
def Obligations.ResetStateIsAsTheChaptersGive : Prop :=
  (∀ p, State.reset.session p = {
      state := .detached, epoch := 0#16, lapseMark := false, holdings := 0, adoptions := 0,
      lapseTimer := none, drainTimer := none, clearedSince := true, fenceLine := false }) ∧
  (∀ p, (State.reset.link p).state = .down ∧ (State.reset.link p).trainingLimit = none ∧
    (State.reset.link p).requests = [] ∧ (State.reset.link p).cache = [] ∧ (State.reset.link p).outbound = []) ∧
  State.reset.engine = { state := .initializing, rememberedFreeze := false, initPos := 0, armed := true } ∧
  State.reset.arbiter.pointer = .initialiser ∧ State.reset.arbiter.scrubTimer = none ∧
  State.reset.arbiter.scrubDue = false ∧
  (∀ n, State.reset.condition n = .withdrawn) ∧ State.reset.journal.index = [] ∧ State.reset.journal.pool = [] ∧
  State.reset.journal.orphans = [] ∧ State.reset.journal.stamp = 1#64 ∧ State.reset.journal.generation = 1#16 ∧
  State.reset.journal.compromised = false ∧
  State.reset.sweeper = { pending := false, position := 0, endMarker := 0 } ∧
  (∀ b, State.reset.block b = { state := .inService, bucket := 0 }) ∧ State.reset.integrity.retireQueue = [] ∧
  State.reset.integrity.reserve = 0 ∧ State.reset.integrity.leakTimer = none ∧ State.reset.integrity.scrubPosition = 0 ∧
  (∀ p k, (State.reset.notices.flags.get p).get k = none) ∧ (∀ p, State.reset.notices.serials.get p = 0#8) ∧
  State.reset.notices.repeatTimer = none ∧
  State.reset.service.target = .idle ∧ State.reset.service.collection = [] ∧ State.reset.service.inProgress = none ∧
  State.reset.service.result = none ∧
  State.reset.settings = {
    lapsePeriodA := 50, lapsePeriodB := 50, drainLimit := 20, noticeRepeat := 10, quotaA := 768,
    quotaB := 768, lowWater := 64, bucketThreshold := 8, leakPeriod := 3600, scrubPace := 1000, fencePeerEnable := 1,
    alertEnable := 0b11111#5 } ∧
  (∀ c, State.reset.faults.get c = { first := none, later := 0#5 }) ∧ State.reset.faults.alert = false ∧
  State.reset.resetCtl = { cause := .powerOn, resetUptime := 0#48, uptime := 0#48 } ∧
  State.reset.pending = []

/-- The frames of the links (R103, R133, R196, R197, R200, Tables 11-4 and 11-5). For every request of up to six payload words, the
frame built from it passes the tests of R103 and yields that request. A reply and a notice are sent as the words spelled: header,
payload, and the CRC of both. Then the CRC, bit by bit, and the order of the fields in a word; the kind of a reply, and the codes of
the statuses and of the notices. That a BAD_REQUEST to a received kind of 0x60 carries kind 0xE0 is the model's choice (log 34). -/
def Obligations.RequestFramesReadBack : Prop :=
  (∀ r : Request, r.payload.length ≤ 6 → receiveFrame r.words = .good r) ∧
  (∀ (r : Reply) (epoch : Epoch) (replay : Bool), r.payload.length ≤ 29 →
    let frame : List Word := [wordOf (r.kind.toNat * 2 ^ 24 + r.seq.toNat * 2 ^ 16 + epoch.toNat),
      wordOf (r.payload.length * 2 ^ 24 + r.status.code.toNat * 2 ^ 16 + (if replay = true then 1 else 0) * 2 ^ 8)] ++ r.payload
    (OutFrame.reply r epoch replay).words = frame ++ [frameCrc frame]) ∧
  (∀ (k : NoticeKind) (epoch : Epoch) (serial : Byte) (payload : Option Word),
    let frame : List Word := [wordOf (0xE0 * 2 ^ 24 + k.code.toNat * 2 ^ 16 + epoch.toNat),
      wordOf (payload.toList.length * 2 ^ 24 + serial.toNat * 2 ^ 16)] ++ payload.toList
    (OutFrame.notice k epoch serial payload).words = frame ++ [frameCrc frame]) ∧
  (∀ ws : List Word, frameCrc ws = ~~~((wordBits ws).foldl crcBit 0xFFFFFFFF#32)) ∧
  (∀ hi lo : Nat, (word2 hi lo).toNat = hi % 65536 * 65536 + lo % 65536) ∧
  (∀ a b c d : Byte, (word4 a b c d).toNat = a.toNat * 2 ^ 24 + b.toNat * 2 ^ 16 + c.toNat * 2 ^ 8 + d.toNat) ∧
  (∀ x : Stamp, stampWords x = [x.extractLsb' 32 32, x.extractLsb' 0 32]) ∧
  (∀ k : Byte, replyKind k = if k.toNat < 0x80 then k + 0x80#8 else 0x80#8) ∧
  ([.ok, .opened, .joined, .closed, .released, .orphaned, .noEntry, .alreadyFenced] : List ReplyStatus).map ReplyStatus.code =
    [0x00, 0x01, 0x02, 0x03, 0x04, 0x05, 0x06, 0x07] ∧
  ([.badRequest, .notReady, .notAttached, .staleEpoch, .fenced, .draining, .frozen, .journalFull, .quota, .holdLimit, .inRecovery,
    .notHeld, .notFound, .notAdopter, .markSet, .fenceOff] : List ReplyStatus).map ReplyStatus.code =
    [0x40, 0x41, 0x42, 0x43, 0x44, 0x45, 0x46, 0x47, 0x48, 0x49, 0x4A, 0x4B, 0x4C, 0x4D, 0x4E, 0x4F] ∧
  ([.peerAttached, .peerDetached, .peerLapsed, .peerFenced, .orphansPresent, .journalLow, .entryDamaged, .journalCompromised,
    .blockRetired, .freezeChanged] : List NoticeKind).map NoticeKind.code =
    [0x01, 0x02, 0x03, 0x04, 0x05, 0x06, 0x07, 0x08, 0x09, 0x0A]

/-! Laws that every step keeps -/

/-- R116: every step keeps each port's request queue and reply cache at most 8 long, each with distinct sequence numbers, and no
number in both. -/
def Obligations.EveryStepKeepsLinkLaw : Prop := ∀ s t, LinkLaw s → step s = .next t → LinkLaw t
/-- Every step keeps the law of outbound queues and training limits. -/
def Obligations.EveryStepKeepsOutboundLaw : Prop := ∀ s t, OutboundLaw s → step s = .next t → OutboundLaw t
/-- Every step keeps the law of session records, and the two counts equal to the live holds and adoptions (R49) unless a new
session takes an epoch that an entry still records, which `EpochsFresh` excludes. -/
def Obligations.EveryStepKeepsSessionLaw : Prop :=
  (∀ s t, Lawful s → step s = .next t → SessionLaw t) ∧
  (∀ s t, Lawful s → CountLaw s → EpochsFresh s → step s = .next t → CountLaw t)
/-- Every step keeps the fence lines, ALERT_N, the later-kinds sets and the ranges of the settings true. -/
def Obligations.EveryStepKeepsLinesAndSettings : Prop :=
  ∀ s t, Lawful s → step s = .next t → LineLaw t ∧ SettingsLaw t
/-- Every step keeps the law of the engine, the arbiter's scrub timer, the stamp counter and the generation. The model's choices: the
initialiser's position is not below 1024 outside INITIALIZING (log 27); the sweeper's standing request is state, and stands
only while a sweep is pending outside INITIALIZING (log 18). -/
def Obligations.EveryStepKeepsEngineLaw : Prop := ∀ s t, Lawful s → step s = .next t → EngineLaw t
/-- Every step keeps the repeat timer running exactly while an attached port has a flag set, and leaves no raise waiting: that raises
wait in a list within a grant alone is the model's choice (log 11). -/
def Obligations.EveryStepKeepsNoticeLaw : Prop := ∀ s t, Lawful s → step s = .next t → NoticeLaw t
/-- Every step keeps every slot number in range, and the slot-keyed tables canonical: that index and store are tables sorted by slot
is the model's choice (log 25). -/
def Obligations.EveryStepKeepsSlotLaw : Prop := ∀ s t, Lawful s → step s = .next t → SlotLaw t
/-- Every step keeps index, pool and slot bodies in agreement, and keys distinct. -/
def Obligations.EveryStepKeepsJournalLaw : Prop := ∀ s t, Lawful s → step s = .next t → JournalLaw t
/-- Every step keeps the fields of every live entry as its state requires, and its stamp as R18 says. -/
def Obligations.EveryStepKeepsEntryLaw : Prop := ∀ s t, Lawful s → step s = .next t → EntryLaw t
/-- Every step keeps the orphan list ordered and equal to the ORPHAN entries. -/
def Obligations.EveryStepKeepsOrphanLaw : Prop := ∀ s t, Lawful s → step s = .next t → OrphanLaw t
/-- Every step keeps the limit of four, the single block in progress and the buckets' range. -/
def Obligations.EveryStepKeepsRetirementLaw : Prop := ∀ s t, Lawful s → step s = .next t → RetirementLaw t
/-- Every step keeps the reserve true, MOVING blocks supplied with slots, and the sum of live and pooled slots within R16's bound. -/
def Obligations.EveryStepKeepsReserveLaw : Prop := ∀ s t, Lawful s → step s = .next t → ReserveLaw t
/-- Every law holds at reset, that of the counts among them. Where a law's clause is the model's choice (logs 11, 18, 25 and 27), so it
is here. -/
def Obligations.LawsHoldAtReset : Prop := Lawful State.reset ∧ CountLaw State.reset

/-! Resets -/

/-- POWER_ON_RESET sets every block to its power-on value, whatever the state; the address is 0x58 plus the pins (R174). The
model's own queue stands and its free value is drawn afresh (log 5). -/
def Obligations.PowerOnResetStartsAfresh : Prop :=
  ∀ (pins : BitVec 2) (s : State), exec (.powerOnReset pins) s =
    .next { State.reset with service := { State.reset.service with address := 0x58#7 + pins.setWidth 7 }
                             freeCount := s.freeCount + 1, pending := s.pending }

/-- A warm reset, by pin always, by the service port unless it is BUSY: every session ended or left as R74 gives, links down and
emptied, journal kept (an initialisation in progress starting again), engine and arbiter as R137 gives, notice unit and service
port as R149 and R186 give, faults, settings and blocks kept. In FROZEN a block in progress is tested as at a THAW (R170). That
lastWasScrub is kept is the model's choice (log 22), and so is that the sweeper's request is withdrawn (log 18). -/
def Obligations.WarmResetKeepsTheJournal : Prop :=
  ∀ (pins : BitVec 2) (s : State) (c : Instr) (cause : ResetCause),
    ((c = .warmPin pins ∧ cause = .warmPin) ∨
      (c = .warmResetKeep pins ∧ cause = .warmService ∧ s.service.target ≠ .busy)) →
    ∃ t, exec c s = .next t ∧
      t.resetCtl = { cause := cause, resetUptime := s.resetCtl.uptime, uptime := s.resetCtl.uptime } ∧
      (∀ p, t.session p = { s.session p with
          state := if (s.session p).state = .fenced then .fenced else .detached
          holdings := 0, adoptions := 0, lapseTimer := none, drainTimer := none
          fenceLine := decide ((s.session p).state = .fenced) }) ∧
      t.sweeper = (if s.isOpen .a = true ∨ s.isOpen .b = true
        then { s.sweeper with pending := true, endMarker := s.sweeper.position } else s.sweeper) ∧
      (∀ p, t.link p = {}) ∧ t.notices = {} ∧
      t.service = { address := 0x58#7 + pins.setWidth 7, settings := s.settings } ∧
      t.journal = { s.journal with pool := if s.engine.state = .initializing then [] else s.journal.pool } ∧
      t.engine = { s.engine with
        state := if s.engine.state = .initializing then .initializing else .ready
        rememberedFreeze := false
        initPos := if s.engine.state = .initializing then 0 else s.engine.initPos } ∧
      t.arbiter = { s.arbiter with
        pointer := .initialiser, scrubDue := false, sweepRequest := false
        scrubTimer := if s.engine.state = .initializing ∨ s.settings.scrubPace = 0 then none
          else some s.settings.scrubPace } ∧
      t.faults = s.faults ∧ t.freeCount = s.freeCount ∧ t.pending = s.pending ∧
      (s.engine.state ≠ .frozen → t.integrity = s.integrity) ∧
      t.integrity.retireQueue = s.integrity.retireQueue ∧ t.integrity.leakTimer = s.integrity.leakTimer ∧
      t.integrity.scrubPosition = s.integrity.scrubPosition ∧
      (∀ b, (t.block b).bucket = (s.block b).bucket) ∧ (∀ b, s.inProgress ≠ some b → t.block b = s.block b) ∧
      (s.inProgress = none → t.integrity = s.integrity) ∧
      (s.engine.state = .frozen → ∀ b, s.inProgress = some b →
        if s.integrity.reserve = 0 then (t.block b).state = .retired ∧ t.integrity.reserve = 0
        else t.integrity.reserve = s.integrity.reserve ∧
          (t.block b).state = if s.integrity.reserve ≤ s.pooled then .moving else .closing)

/-- WARM_RESET with CLEAR, the port not BUSY: as a warm reset, and the journal emptied under the next generation, queued and
in-progress blocks RETIRED, the arming ARMED and initialisation started (R23, R126, R137, R170, R172). That lastWasScrub is
kept is the model's choice (log 22), and so is that the sweeper's request is withdrawn (log 18). -/
def Obligations.ClearingResetEmptiesTheJournal : Prop :=
  ∀ (pins : BitVec 2) (s : State), s.service.target ≠ .busy →
    ∃ t, exec (.warmResetClear pins) s = .next t ∧
      t.resetCtl = { cause := .clearing, resetUptime := s.resetCtl.uptime, uptime := s.resetCtl.uptime } ∧
      (∀ p, t.session p = { s.session p with
          state := if (s.session p).state = .fenced then .fenced else .detached
          holdings := 0, adoptions := 0, lapseTimer := none, drainTimer := none, clearedSince := true
          fenceLine := decide ((s.session p).state = .fenced) }) ∧
      t.sweeper = (if s.isOpen .a = true ∨ s.isOpen .b = true
        then { s.sweeper with pending := true, endMarker := s.sweeper.position } else s.sweeper) ∧
      (∀ p, t.link p = {}) ∧ t.notices = {} ∧
      t.service = { address := 0x58#7 + pins.setWidth 7, settings := s.settings } ∧
      t.journal.index = [] ∧ t.journal.pool = [] ∧ t.journal.orphans = [] ∧ t.journal.stamp = 1#64 ∧
      t.journal.compromised = false ∧
      t.journal.generation = (if s.journal.generation = 0xFFFF#16 then 1#16 else s.journal.generation + 1#16) ∧
      t.engine = { state := .initializing, rememberedFreeze := false, initPos := 0, armed := true } ∧
      t.arbiter = { s.arbiter with pointer := .initialiser, scrubDue := false, scrubTimer := none, sweepRequest := false } ∧
      (∀ b, b < 16 → t.block b = if (s.block b).state.inProgress = true ∨ b ∈ s.integrity.retireQueue
        then { s.block b with state := .retired } else s.block b) ∧
      t.integrity.retireQueue = [] ∧ t.integrity.reserve = 0 ∧ t.integrity.leakTimer = s.integrity.leakTimer ∧
      t.integrity.scrubPosition = s.integrity.scrubPosition ∧
      t.faults = s.faults ∧ t.freeCount = s.freeCount ∧ t.pending = s.pending

/-! Links -/

/-- SIGNAL_DETECT, TRAINING_COMPLETES, TRAINING_LIMIT_EXPIRY, LOSS_OF_LOCK and FRAME_TRANSMIT in every link state: the table of
R99 with the training limit of R100, the losses and the LINK_DOWN fault of R101, and the sending of R120. Each leaves everything
else as it is. The model's choices: a transmission begins whatever was being sent, and the frame that began last stays in `sending`
(log 23); a command whose event cannot occur, a transmission with nothing to send among them, changes nothing (log 1); the training
limit expires whatever time remains (log 8). -/
def Obligations.LinkEventsMoveTheLink : Prop :=
  ∀ (p : Port) (s : State), let l := s.link p
    exec (.signalDetect p) s = .next (if l.state = .down
      then s.setLink p { l with state := .training, trainingLimit := some 20 } else s) ∧
    exec (.trainingCompletes p) s = .next (if l.state = .training
      then s.setLink p { l with state := .up, trainingLimit := none } else s) ∧
    exec (.trainingLimitExpiry p) s = .next (if l.state = .training
      then (s.setLink p { l with state := .down, trainingLimit := none, outbound := [], sending := none }).capture
        { kind := .linkDown, port := some p } else s) ∧
    exec (.lossOfLock p) s = .next (if l.state ≠ .down
      then (s.setLink p { l with state := .down, trainingLimit := none, outbound := [], sending := none }).capture
        { kind := .linkDown, port := some p } else s) ∧
    (∀ f rest, l.state = .up → l.outbound = f :: rest →
      exec (.frameTransmit p) s = .next (s.setLink p { l with outbound := rest, sending := some f })) ∧
    (l.state ≠ .up ∨ l.outbound = [] → exec (.frameTransmit p) s = .next s)

/-- REQUEST_FRAME that is no good frame (R103): nothing is received unless the link is UP; a frame that cannot be parsed, or
whose CRC differs, is discarded with its LINK fault and changes nothing else. -/
def Obligations.BadFramesAreDiscarded : Prop :=
  (∀ (p : Port) (words : List Word) (s : State), (s.link p).state ≠ .up → exec (.requestFrame p words) s = .next s) ∧
  (∀ (p : Port) (words : List Word) (s : State), (s.link p).state = .up →
    ¬(3 ≤ words.length ∧ ((words[1]?.getD 0).extractLsb' 24 8).toNat ≤ 6 ∧
      words.length = 3 + ((words[1]?.getD 0).extractLsb' 24 8).toNat) →
    exec (.requestFrame p words) s = .next (s.capture { kind := .malformed, port := some p })) ∧
  (∀ (p : Port) (content : List Word) (crc : Word) (s : State), (s.link p).state = .up →
    2 ≤ content.length → ((content[1]?.getD 0).extractLsb' 24 8).toNat ≤ 6 →
    content.length = 2 + ((content[1]?.getD 0).extractLsb' 24 8).toNat → crc ≠ frameCrc content →
    exec (.requestFrame p (content ++ [crc])) s = .next (s.capture { kind := .crc, port := some p }))

/-- REQUEST_FRAME with a good frame (R56, R104, R110, R113): under the current epoch of an open session the lapse timer restarts, but
not for an ATTACH (kind 0x01), whose epoch field is ignored; then a cached number is replayed if the outbound queue has room, a
queued one discarded, a ninth request overruns, and any other frame joins the queue. -/
def Obligations.GoodFramesAreAdmitted : Prop :=
  ∀ (p : Port) (words : List Word) (r : Request) (s : State),
    (s.link p).state = .up → receiveFrame words = .good r →
    let l := s.link p
    let u := if s.isOpen p = true ∧ r.epoch = (s.session p).epoch ∧ r.kind ≠ 0x01#8
      then s.setSession p { s.session p with lapseTimer := some (s.settings.lapsePeriod p) } else s
    (∀ c, (l.cache.find? fun c => c.seq = r.seq) = some c →
      exec (.requestFrame p words) s = .next (if l.outbound.length < 16
        then u.setLink p { l with outbound := l.outbound ++ [.reply c (s.session p).epoch true] } else u)) ∧
    (r.seq ∉ l.cached → r.seq ∈ l.queued → exec (.requestFrame p words) s = .next u) ∧
    (r.seq ∉ l.cached → r.seq ∉ l.queued → 8 ≤ l.requests.length →
      exec (.requestFrame p words) s = .next (u.capture { kind := .overrun, port := some p })) ∧
    (r.seq ∉ l.cached → r.seq ∉ l.queued → l.requests.length < 8 →
      exec (.requestFrame p words) s = .next (u.setLink p { l with requests := l.requests ++ [r] })) ∧
    (r.kind = 0x01#8 → ∃ t, exec (.requestFrame p words) s = .next t ∧ t.sessions = s.sessions)

/-! Grants, replies, notices, faults -/

/-- The arbiter's choice and the start of a grant. The choice (R130, R131), at most one block being in progress: a due scrub grant
outside INITIALIZING, but not right after a scrub grant while a place has work; else the first place behind the pointer that has
work, which it has as spelled here (the sweeper's standing request is R86's, log 18). The start of a grant of port `p` (R130, R135,
R165): the pointer moves to the port's place; sessions, store, index, orphan list, service port, faults and reset control are
untouched; and unless a block is due to enter CLOSING nothing else changes but that the grant's notices now wait. If one is due, the
head of the retire queue has left it, is no longer IN_SERVICE, and has no slot in the pool. The start of any grant: of every place
the pointer moves to it, of a scrub grant the pointer stands, the indicator is cleared and the timer restarts (R131); then a block
that is due enters CLOSING, whoever the requester is, and, if it is retired at once, the next queued block after it (R165, R169). That
an entry to CLOSING which withdraws no pooled slot makes no low-water test is the model's choice (log 16). -/
def Obligations.GrantStartMovesThePointer : Prop :=
  (∀ s : State, RetirementLaw s →
    let work (q : Place) : Prop := match q with
      | .portA => (s.link .a).requests ≠ []
      | .portB => (s.link .b).requests ≠ []
      | .service => s.service.inProgress ≠ none
      | .sweeper => s.sweeper.pending = true ∧ s.engine.state ≠ .initializing ∧
          (s.condition s.sweeper.position = .live ∨ s.arbiter.sweepRequest = true)
      | .relocator => s.engine.state = .ready ∧ ∃ b, (s.block b).state = .moving ∧ 0 < s.liveInBlock b
      | .initialiser => s.engine.state = .initializing ∧ s.engine.initPos < 1024 ∧ (s.block (s.engine.initPos / 64)).state ≠ .retired
    let number (q : Place) : Nat := match q with
      | .portA => 1 | .portB => 2 | .service => 3 | .sweeper => 4 | .relocator => 5 | .initialiser => 6
    let behind (q : Place) : Nat := (number q + 11 - number s.arbiter.pointer) % 6
    let scrub : Prop := s.arbiter.scrubDue = true ∧ s.engine.state ≠ .initializing ∧
      ¬(s.arbiter.lastWasScrub = true ∧ ∃ q, work q)
    (s.nextGrant = some .scrubber ↔ scrub) ∧
    (∀ q, s.nextGrant = some (.place q) ↔ ¬scrub ∧ work q ∧ ∀ q', behind q' < behind q → ¬work q') ∧
    (∀ p r, s.grantedRequest p = some r ↔
      s.nextGrant = some (.place (match p with | .a => .portA | .b => .portB)) ∧ ∃ rest, (s.link p).requests = r :: rest) ∧
    (∀ g, s.grantedService = some g ↔ s.nextGrant = some (.place .service) ∧ s.service.inProgress = some g) ∧
    (s.closingDue = true ↔ s.engine.state = .ready ∧ s.inProgress = none ∧ s.integrity.retireQueue ≠ [])) ∧
  (∀ (p : Port) (s : State), let t := s.grantStart p
    t.arbiter = { s.arbiter with pointer := portPlace p, lastWasScrub := false } ∧
    t.sessions = s.sessions ∧ t.journal.store = s.journal.store ∧ t.journal.index = s.journal.index ∧
    t.journal.orphans = s.journal.orphans ∧ t.service = s.service ∧ t.faults = s.faults ∧ t.resetCtl = s.resetCtl ∧
    t.sweeper = s.sweeper ∧ t.engine.state = s.engine.state ∧
    (s.closingDue = false → t = { s with
      arbiter := { s.arbiter with pointer := portPlace p, lastWasScrub := false }
      notices := { s.notices with held := some [] } }) ∧
    (∀ b rest, RetirementLaw s → s.closingDue = true → s.integrity.retireQueue = b :: rest →
      b ∉ t.integrity.retireQueue ∧ (t.block b).state ≠ .inService ∧ ∀ n ∈ t.journal.pool, blockOf n ≠ b)) ∧
  ∀ s : State,
    let placed (q : Place) : Arbiter := { s.arbiter with pointer := q, lastWasScrub := false }
    let scrubbed : Arbiter := { s.arbiter with
      scrubDue := false, lastWasScrub := true
      scrubTimer := if s.settings.scrubPace = 0 then none else some s.settings.scrubPace }
    (∀ q, (s.beginGrant q).arbiter = placed q ∧ s.beginGrant q = ({ s with arbiter := placed q } : State).enterIfDue) ∧
    s.beginScrub.arbiter = scrubbed ∧ s.beginScrub = ({ s with arbiter := scrubbed } : State).enterIfDue ∧
    (s.closingDue = false → s.enterIfDue = s) ∧
    (∀ b rest, RetirementLaw s → s.closingDue = true → s.integrity.retireQueue = b :: rest →
      ∃ y, EntersClosing s y b rest ∧ RetirementLaw y ∧ s.enterIfDue = y.enterIfDue)

/-- The end of a granted request (R107, R111, R112, R117 to R119, R135): the reply is cached unless of an uncached kind, the oldest
of 8 going first; the request leaves the queue; the reply joins the outbound queue if the link is UP and it holds fewer than 16,
before any notice of the grant; then the raises that waited are taken one by one in the order made (R135, R148; that they wait is
log 11), and the repeat timer is judged. No session, journal, engine, sweeper, integrity, service, fault or reset state changes. -/
def Obligations.AnsweredDeliversOneReply : Prop :=
  ∀ (u : State) (p : Port) (r : Request) (a : Answer),
    let t := u.answered p r a
    let reply : Reply := { kind := replyKind r.kind, seq := r.seq, status := a.status, payload := a.payload }
    (t.link p).requests = (u.link p).requests.tail ∧
    (t.link p).cache = (if a.status ∈ [.notReady, .fenced, .notAttached, .staleEpoch] then (u.link p).cache
      else (if 8 ≤ (u.link p).cache.length then (u.link p).cache.tail else (u.link p).cache) ++ [reply]) ∧
    (∃ notices : List OutFrame, (∀ f ∈ notices, ∃ k e n w, f = .notice k e n w) ∧
      (u.notices.held.getD [] = [] → notices = []) ∧
      (t.link p).outbound = (u.link p).outbound ++
        (if (u.link p).state = .up ∧ (u.link p).outbound.length < 16 then [.reply reply (u.session p).epoch false] else []) ++
        notices) ∧
    (u.notices.held.getD [] = [] → t.link p.other = u.link p.other ∧ t.notices.flags = u.notices.flags ∧
      t.notices.serials = u.notices.serials) ∧
    (t.link p).state = (u.link p).state ∧ (t.link p.other).requests = (u.link p.other).requests ∧
    (t.link p.other).cache = (u.link p.other).cache ∧ t.notices.held = none ∧
    t.sessions = u.sessions ∧ t.arbiter = u.arbiter ∧ t.journal = u.journal ∧ t.engine = u.engine ∧ t.sweeper = u.sweeper ∧
    t.integrity = u.integrity ∧ t.service = u.service ∧ t.faults = u.faults ∧ t.resetCtl = u.resetCtl ∧
    t.freeCount = u.freeCount ∧ t.pending = u.pending ∧
    (let l := u.link p
     let replied : Link := { l with
       cache := if a.status ∈ [.notReady, .fenced, .notAttached, .staleEpoch] then l.cache
         else (if 8 ≤ l.cache.length then l.cache.tail else l.cache) ++ [reply]
       requests := l.requests.tail
       outbound := l.outbound ++
         if l.state = .up ∧ l.outbound.length < 16 then [.reply reply (u.session p).epoch false] else [] }
     t = ((u.notices.held.getD []).foldl State.takeRaise
       { u with links := u.links.set p replied, notices := { u.notices with held := none } }).judgeRepeat)

/-- A raise. As the notice unit takes it (R141 to R143, R147, R148): one frame with the port's epoch and serial, the serial then
rising by 1, if the session is open and the outbound queue accepts it; a repeating kind also sets its clear flag with the payload,
and raised while its flag is set does nothing; a once-only kind leaves no record. When it is taken (R135, R140, R142): at once if no
reply is to come; while one is, it waits in its order, but a once-only kind for a port that is not attached is lost (that the raises
of a grant wait in a list is log 11; A before B in a raise for both is log 30). The repeat timer (R144) starts with NOTICE_REPEAT
times 10 ms when an attached port has a flag set, and stops when none has; an event that leaves it so with the timer running does
not restart it (log 12). -/
def Obligations.RaisesSendAndSetFlags : Prop :=
  ∀ (s : State) (p : Port) (k : NoticeKind) (w : Option Word),
    let t := s.takeRaise ⟨p, k, w⟩
    let pendingBefore := ((s.notices.flags.get p).get k).isSome
    (k.repeating = true ↔ k ∈ [.peerLapsed, .peerFenced, .entryDamaged, .journalCompromised]) ∧
    (k.repeating = true → pendingBefore = true → t = s) ∧
    (k.repeating = true → pendingBefore = false → (t.notices.flags.get p).get k = some w) ∧
    (k.repeating = false → t.notices.flags = s.notices.flags) ∧
    (pendingBefore = false → s.isOpen p = true → (s.link p).state = .up → (s.link p).outbound.length < 16 →
      (t.link p).outbound = (s.link p).outbound ++ [.notice k (s.session p).epoch (s.notices.serials.get p) w] ∧
      t.notices.serials.get p = s.notices.serials.get p + 1#8) ∧
    (pendingBefore = false → ¬(s.isOpen p = true ∧ (s.link p).state = .up ∧ (s.link p).outbound.length < 16) →
      t.links = s.links ∧ t.notices.serials = s.notices.serials) ∧
    (∀ k', k' ≠ k → (t.notices.flags.get p).get k' = (s.notices.flags.get p).get k') ∧
    t.notices.flags.get p.other = s.notices.flags.get p.other ∧ t.link p.other = s.link p.other ∧
    t.notices.serials.get p.other = s.notices.serials.get p.other ∧
    t = { s with links := t.links, notices := { s.notices with flags := t.notices.flags, serials := t.notices.serials } } ∧
    (s.notices.held = none → s.raise p k w = t) ∧
    (∀ l, s.notices.held = some l → k.repeating = true ∨ s.isOpen p = true →
      s.raise p k w = { s with notices := { s.notices with held := some (l ++ [⟨p, k, w⟩]) } }) ∧
    (∀ l, s.notices.held = some l → k.repeating = false → s.isOpen p = false → s.raise p k w = s) ∧
    s.raiseBoth k w = (s.raise .a k w).raise .b k w ∧
    (let flagged := ∃ q, s.isOpen q = true ∧ (s.notices.flags.get q).any = true
     (flagged → s.notices.repeatTimer = none →
       s.judgeRepeat = { s with notices := { s.notices with repeatTimer := some (s.settings.noticeRepeat * 10) } }) ∧
     (flagged → s.notices.repeatTimer ≠ none → s.judgeRepeat = s) ∧
     (¬flagged → s.judgeRepeat = { s with notices := { s.notices with repeatTimer := none } })) ∧
    s.finish = ((s.notices.held.getD []).foldl State.takeRaise { s with notices := { s.notices with held := none } }).judgeRepeat

/-- R190: a fault fills an absent first record with its kind, fields and the uptime, the later-kinds set standing; with a first
record held, that record stands and the kind joins the set; the other four classes are untouched. ALERT_N is judged in the same
event, and no other state changes. -/
def Obligations.FaultsFillOrJoin : Prop :=
  ∀ (s : State) (f : FaultRecord), let t := s.capture f; let c := f.kind.faultClass
    ((s.faults.get c).first = none →
      t.faults.get c = { s.faults.get c with first := some { f with uptime := s.resetCtl.uptime } }) ∧
    ((s.faults.get c).first.isSome = true →
      t.faults.get c = { s.faults.get c with later := (s.faults.get c).later ||| f.kind.bit }) ∧
    (∀ c', c' ≠ c → t.faults.get c' = s.faults.get c') ∧
    t.faults.alert = alertCondition t.faults s.settings.alertEnable ∧
    t = { s with faults := t.faults }

/-! Peer requests -/

/-- What a queued frame spells by its kind code and payload (R27, R62, R133, Tables 11-1 and 11-3), BAD_REQUEST being what spells
none of the twelve kinds; and the checks at a request's grant (R133, R134, R54): a malformed request, which is the row BAD_REQUEST,
is answered BAD_REQUEST in any state; any other is answered NOT_READY while INITIALIZING; then FENCED, for ATTACH too; and, but for
ATTACH, NOT_ATTACHED from a DETACHED or LAPSED port and STALE_EPOCH under another epoch. Nothing but the grant and its answer
happens. -/
def Obligations.GrantChecksRefuseInOrder : Prop :=
  (∀ r : Request, let spells (code : Byte) (words : List Word) : Prop := r.kind = code ∧ r.payload = words
    (∀ i, r.classify = .attach i ↔ spells 0x01 [i]) ∧
    (r.classify = .detachGraceful ↔ spells 0x02 [1]) ∧ (r.classify = .detachAbrupt ↔ spells 0x02 [2]) ∧
    (r.classify = .pulse ↔ spells 0x03 []) ∧
    (∀ k note, r.classify = .openIntent k note ↔ note.length ≤ 2 ∧ spells 0x10 ([k.volume.setWidth 32, k.region] ++ note)) ∧
    (∀ k, r.classify = .closeIntent k ↔ spells 0x11 [k.volume.setWidth 32, k.region]) ∧
    (∀ k, r.classify = .query k ↔ spells 0x12 [k.volume.setWidth 32, k.region]) ∧
    (r.classify = .adopt ↔ spells 0x20 []) ∧
    (∀ k, r.classify = .resolve k ↔ spells 0x21 [k.volume.setWidth 32, k.region]) ∧
    (r.classify = .clearMark ↔ spells 0x30 []) ∧ (r.classify = .fencePeer ↔ spells 0x31 []) ∧
    (∀ k : NoticeKind, r.classify = .ackNotice k ↔ spells 0x40 [k.code.setWidth 32]) ∧
    (r.classify = .status ↔ spells 0x41 [])) ∧
  ∀ (p : Port) (r : Request) (k : PeerRequest) (w : SlotWear) (ws : List SlotWear) (s : State), Granted s p r k →
    let refused (status : ReplyStatus) : Prop :=
      exec (commandFor p w ws k) s = .next ((s.grantStart p).answered p r { status := status })
    (k = .bad → refused .badRequest) ∧
    (k ≠ .bad → s.engine.state = .initializing → refused .notReady) ∧
    (k ≠ .bad → s.engine.state ≠ .initializing → (s.session p).state = .fenced → refused .fenced) ∧
    (k ≠ .bad → (∀ i, k ≠ .attach i) → s.engine.state ≠ .initializing →
      (s.session p).state = .detached ∨ (s.session p).state = .lapsed → refused .notAttached) ∧
    (k ≠ .bad → (∀ i, k ≠ .attach i) → s.engine.state ≠ .initializing → s.isOpen p = true →
      r.epoch ≠ (s.session p).epoch → refused .staleEpoch)

/-- Logs 1 to 3, the model's choice: a peer-request command changes nothing unless the arbiter's next grant is that port's and the
head of its queue spells that command. -/
def Obligations.RequestsOutOfTurnChangeNothing : Prop :=
  ∀ (p : Port) (c : Instr) (s : State), isRequestOf p c →
    (s.grantedRequest p = none ∨ ∃ r k, Granted s p r k ∧ ∀ w ws, c ≠ commandFor p w ws k) →
    exec c s = .next s

/-- ATTACH from any state but FENCED, the engine not INITIALIZING (R50, R52, R53, R55, R114, R146, R147), first whatever block is
due to enter CLOSING in the grant, then spelled out with none due: the new session, the reply alone in the cache, flags and serial
cleared, PEER_ATTACHED to the other port if it is attached and its queue accepts it, a sweep marked if a session was open, and
nothing else changed. The model's choices: the bits of the reply's third word that Table 11-2 does not name are 0 (log 21); the
notices that the block's entry to CLOSING raised for a port attached then are sent behind the reply, to the attaching port under
its new session (log 11). -/
def Obligations.AttachOpensASession : Prop :=
  ∀ (p : Port) (r : Request) (i : Word) (s : State),
    Granted s p r (.attach i) → s.engine.state ≠ .initializing → (s.session p).state ≠ .fenced →
    let x := s.session p
    let epoch := if x.epoch = 0xFFFF#16 then 1#16 else x.epoch + 1#16
    let sweeper := if s.isOpen p = true
      then { s.sweeper with pending := true, endMarker := s.sweeper.position } else s.sweeper
    let told := s.isOpen p.other = true ∧ (s.link p.other).state = .up ∧ (s.link p.other).outbound.length < 16
    let reply : Reply := { kind := replyKind r.kind, seq := r.seq, status := .ok, payload := [
      i, word2 s.journal.generation.toNat epoch.toNat,
      wordOf ((s.session p.other).state.code * 2 ^ 8 + bitIf x.clearedSince 0 + bitIf s.journal.compromised 1 +
        bitIf sweeper.pending 2),
      wordOf s.orphanCount] }
    (let u := s.grantStart p
     let opened : State := { u with
       sessions := u.sessions.set p { x with
         state := .attached, epoch := epoch, holdings := 0, adoptions := 0, drainTimer := none, clearedSince := false
         lapseTimer := some (s.settings.lapsePeriod p), fenceLine := if s.isOpen p = true then false else x.fenceLine }
       sweeper := sweeper
       links := u.links.set p { u.link p with cache := [] }
       notices := { u.notices with flags := u.notices.flags.set p {}, serials := u.notices.serials.set p 0#8 } }
     exec (.attach p) s = .next ((opened.raise p.other .peerAttached (some (epoch.setWidth 32))).answered p r
       { status := .ok, payload := reply.payload })) ∧
    (s.closingDue = false → ∃ t, exec (.attach p) s = .next t ∧
      (t.session p).state = .attached ∧ (t.session p).epoch = epoch ∧ (t.session p).lapseMark = x.lapseMark ∧
      (t.session p).holdings = 0 ∧ (t.session p).adoptions = 0 ∧
      (t.session p).lapseTimer = some (s.settings.lapsePeriod p) ∧ (t.session p).drainTimer = none ∧
      (t.session p).clearedSince = false ∧ t.session p.other = s.session p.other ∧
      (t.link p).cache = [reply] ∧ (t.link p).requests = (s.link p).requests.tail ∧
      (t.link p).state = (s.link p).state ∧
      (t.link p).outbound = (s.link p).outbound ++
        (if (s.link p).state = .up ∧ (s.link p).outbound.length < 16 then [.reply reply epoch false] else []) ∧
      t.notices.flags = s.notices.flags.set p {} ∧ t.notices.serials.get p = 0#8 ∧
      (told → t.link p.other = { s.link p.other with outbound := (s.link p.other).outbound ++
          [.notice .peerAttached (s.session p.other).epoch (s.notices.serials.get p.other) (some (epoch.setWidth 32))] } ∧
        t.notices.serials.get p.other = s.notices.serials.get p.other + 1#8) ∧
      (¬told → t.link p.other = s.link p.other ∧ t.notices.serials.get p.other = s.notices.serials.get p.other) ∧
      t.sweeper = sweeper ∧ t.arbiter = { s.arbiter with pointer := portPlace p, lastWasScrub := false } ∧
      t.journal = s.journal ∧ t.engine = s.engine ∧ t.integrity = s.integrity ∧ t.service = s.service ∧
      t.faults = s.faults ∧ t.resetCtl = s.resetCtl ∧ t.freeCount = s.freeCount ∧ t.pending = s.pending)

/-- DETACH (R62, R65): GRACEFUL with nothing held ends the session at once, with something held drains, and in DRAINING changes
nothing; ABRUPT ends it abnormally. The notice, PEER_DETACHED with the port's epoch, is the other port's. -/
def Obligations.DetachEndsOrDrains : Prop :=
  ∀ (p : Port) (r : Request) (s : State), let u := s.grantStart p; let x := s.session p
    (Executes s p r .detachGraceful →
      (x.state = .attached → x.holdings = 0 → x.adoptions = 0 →
        exec (.detachGraceful p) s = .next (((u.setSession p (ended x .detached)).raise p.other .peerDetached
          (some (x.epoch.setWidth 32))).answered p r { status := .ok })) ∧
      (x.state = .attached → ¬(x.holdings = 0 ∧ x.adoptions = 0) →
        exec (.detachGraceful p) s = .next ((u.setSession p
          { x with state := .draining, drainTimer := some (s.settings.drainLimit * 100) }).answered p r { status := .ok })) ∧
      (x.state = .draining → exec (.detachGraceful p) s = .next (u.answered p r { status := .ok }))) ∧
    (Executes s p r .detachAbrupt →
      exec (.detachAbrupt p) s = .next (((u.ending p .detached).raise p.other .peerDetached
        (some (x.epoch.setWidth 32))).answered p r { status := .ok }))

/-- PULSE and STATUS report what R72 and R73 list, in the layout of Table 11-2, and change nothing beyond their grant and answer;
with no block due to enter CLOSING in the grant, that is the arbiter, the port's queue, cache and outbound queue, and the repeat
timer alone. The bits of their words that Table 11-2 does not name are 0, the model's choice (log 21). -/
def Obligations.PulseAndStatusOnlyReport : Prop :=
  ∀ (p : Port) (r : Request) (s : State), let u := s.grantStart p; let x := s.session p
    (Executes s p r .pulse → exec (.pulse p) s = .next (u.answered p r { status := .ok, payload := [
      wordOf ((s.session p.other).state.code * 2 ^ 8 + (s.notices.flags.get p).setCode)] })) ∧
    (Executes s p r .status → exec (.status p) s = .next (u.answered p r { status := .ok, payload := [
      word4 (BitVec.ofNat 8 x.state.code) (BitVec.ofNat 8 s.engine.state.code)
        (BitVec.ofNat 8 (s.session p.other).state.code)
        (BitVec.ofNat 8 (bitIf x.lapseMark 0 + bitIf s.journal.compromised 1 + bitIf s.sweeper.pending 2)),
      word2 x.holdings x.adoptions, word2 u.pooled s.orphanCount,
      word2 s.journal.generation.toNat (s.notices.flags.get p).setCode] })) ∧
    (∀ c t, c = .pulse p ∨ c = .status p → exec c s = .next t → s.closingDue = false →
      t.sessions = s.sessions ∧ t.journal = s.journal ∧ t.engine = s.engine ∧ t.sweeper = s.sweeper ∧
      t.integrity = s.integrity ∧ t.service = s.service ∧ t.faults = s.faults ∧ t.resetCtl = s.resetCtl ∧
      t.link p.other = s.link p.other ∧ t.notices.flags = s.notices.flags ∧ t.notices.serials = s.notices.serials ∧
      (∀ m, t.stored m = s.stored m))

/-- CLEAR_MARK from a peer (R61) clears the port's own mark alone; ACK_NOTICE (R145) clears the named kind's flag of the port, if
the kind repeats, and reports the set that is left. -/
def Obligations.ClearMarkAndAckNotice : Prop :=
  ∀ (p : Port) (r : Request) (s : State), let u := s.grantStart p
    (Executes s p r .clearMark → exec (.clearMark p) s =
      .next ((u.setSession p { s.session p with lapseMark := false }).answered p r { status := .ok })) ∧
    (∀ k, Executes s p r (.ackNotice k) →
      let flags := if k.repeating = true then (u.notices.flags.get p).put k none else u.notices.flags.get p
      exec (.ackNotice p) s = .next ((u.setNotices { u.notices with flags := u.notices.flags.set p flags }).answered p r
        { status := .ok, payload := [wordOf flags.setCode] }) ∧
      flags.get k = none ∧ ∀ k', k' ≠ k → flags.get k' = (u.notices.flags.get p).get k')

/-- FENCE_PEER (R68): the four refusals in their order, and the fence of the other port with its PEER_FENCED for the requester and
its SESSION fault. -/
def Obligations.FencePeerFencesTheOtherPort : Prop :=
  ∀ (p : Port) (r : Request) (s : State), Executes s p r .fencePeer →
    let u := s.grantStart p
    let answers (x : State) (status : ReplyStatus) : Prop :=
      exec (.fencePeer p) s = .next (x.answered p r { status := status })
    let draining := (s.session p).state = .draining
    let marked := (s.session p).lapseMark = true
    let off := s.settings.fencePeerEnable = 0
    let already := (s.session p.other).state = .fenced
    (draining → answers u .draining) ∧
    (¬draining → marked → answers u .markSet) ∧
    (¬draining → ¬marked → off → answers u .fenceOff) ∧
    (¬draining → ¬marked → ¬off → already → answers u .alreadyFenced) ∧
    (¬draining → ¬marked → ¬off → ¬already →
      answers (((u.ending p.other .fenced).raise p .peerFenced (some 2#32)).capture
        { kind := .fenceByPeer, port := some p.other }) .ok)

/-! Journal requests -/

/-- OPEN of a key without an entry, or whose entry the read has lost (R26, R28, R32, R36): QUOTA, then JOURNAL_FULL for want of a
slot or a stamp, each with its fault; else a new entry in the head slot. `v` is the state after the lookup and its read. The fall
of the pooled free count makes the low-water test of R45, which the last clause spells out for any state. The new slot receives the
entry write of R5. That a read which lost the entry has also retired the block, and let the next one enter CLOSING, before the
tests and the slot are taken is the model's choice (log 33). -/
def Obligations.OpenOfANewKeyCreatesAnEntry : Prop :=
  (∀ (p : Port) (r : Request) (k : RegionKey) (note : List Word) (w : SlotWear) (s v : State),
    Executes s p r (.openIntent k note) → s.engine.state = .ready → (s.session p).state = .attached →
    ((s.lookup k = none ∧ v = s.grantStart p) ∨
      ∃ n, s.lookup k = some n ∧ v = (s.grantStart p).readSlot n w ∧ v.entryAt n = none) →
    let x := v.session p
    (v.settings.quota p ≤ x.holdings → exec (.openIntent p w) s =
      .next ((v.capture { kind := .quota, port := some p, key := some k }).answered p r
        { status := .quota, payload := [word2 x.holdings (v.settings.quota p)] })) ∧
    (x.holdings < v.settings.quota p → v.pooled ≤ v.integrity.reserve ∨ v.journal.stamp = Config.stampMax →
      exec (.openIntent p w) s =
      .next ((v.capture { kind := .journalFull, port := some p, key := some k }).answered p r
        { status := .journalFull, payload := [word2 v.pooled v.integrity.reserve] })) ∧
    (∀ n rest, x.holdings < v.settings.quota p → v.integrity.reserve < v.pooled → v.journal.stamp ≠ Config.stampMax →
      v.journal.pool = n :: rest →
      ∃ y : State, exec (.openIntent p w) s = .next (y.answered p r
          { status := .opened, payload := stampWords v.journal.stamp ++ [wordOf 1] }) ∧
        y.keyAt n = some k ∧
        y.entryAt n = some {
          state := .opened
          holdA := if p = .a then some ⟨1, x.epoch⟩ else none
          holdB := if p = .b then some ⟨1, x.epoch⟩ else none
          lostHolder := false, damaged := false, stamp := v.journal.stamp, note := note, adopter := none } ∧
        y.stored n = ⟨⟨.key k, .key k, .key k⟩, .entry {
          state := .opened
          holdA := if p = .a then some ⟨1, x.epoch⟩ else none
          holdB := if p = .b then some ⟨1, x.epoch⟩ else none
          lostHolder := false, damaged := false, stamp := v.journal.stamp, note := note, adopter := none }, .clean⟩ ∧
        y.assoc n = some { key := k, summary := {
          holdA := if p = .a then some x.epoch else none, holdB := if p = .b then some x.epoch else none, adopter := none } } ∧
        (∀ m, m ≠ n → y.stored m = v.stored m ∧ y.assoc m = v.assoc m) ∧
        y.journal.stamp = v.journal.stamp + 1#64 ∧ y.journal.orphans = v.journal.orphans ∧
        y.journal.generation = v.journal.generation ∧ y.journal.compromised = v.journal.compromised ∧
        (v.integrity.retireQueue = [] → y.journal.pool = rest) ∧
        y.sessions = v.sessions.set p { x with holdings := x.holdings + 1 } ∧
        y.engine.state = v.engine.state ∧ y.service = v.service ∧ y.faults = v.faults ∧ y.sweeper = v.sweeper ∧
        y.arbiter = v.arbiter ∧
        (v.integrity.retireQueue = [] → v.inProgress = none ∨ 0 < v.integrity.reserve → LowWater v y rest.length))) ∧
  ∀ x : State, let t := x.lowWaterTest
    LowWater x t x.pooled ∧ t = { x with engine := t.engine, notices := t.notices, links := t.links }

/-- OPEN of a key with an entry `e`, as its read and conversion left it in state `v` (R29 to R31, R33): IN_RECOVERY; JOINED with
one more, or HOLD_LIMIT at 15, of a live hold; QUOTA or JOINED with a new hold. -/
def Obligations.OpenOfAnEntryJoinsIt : Prop :=
  ∀ (p : Port) (r : Request) (k : RegionKey) (note : List Word) (w : SlotWear) (s : State) (n : Nat) (e : EntryBody),
    Executes s p r (.openIntent k note) → s.engine.state = .ready → (s.session p).state = .attached →
    s.lookup k = some n →
    let v := (s.grantStart p).readSlot n w
    let x := v.session p
    let newNote := if note = [] then e.note else note
    v.entryAt n = some e →
    (e.state ≠ .opened → exec (.openIntent p w) s =
      .next (v.answered p r { status := .inRecovery, payload := [wordOf (entryStateCode e.state)] })) ∧
    (∀ h, e.state = .opened → e.hold p = some h → h.count < 15 → exec (.openIntent p w) s =
      .next ((v.bodyWrite n { e.setHold p (some { h with count := h.count + 1 }) with note := newNote }).answered p r
        { status := .joined, payload := stampWords e.stamp ++ [wordOf (h.count + 1)] })) ∧
    (∀ h, e.state = .opened → e.hold p = some h → 15 ≤ h.count → exec (.openIntent p w) s =
      .next (v.answered p r { status := .holdLimit, payload := stampWords e.stamp ++ [wordOf h.count] })) ∧
    (e.state = .opened → e.hold p = none → v.settings.quota p ≤ x.holdings → exec (.openIntent p w) s =
      .next ((v.capture { kind := .quota, port := some p, key := some k }).answered p r
        { status := .quota, payload := [word2 x.holdings (v.settings.quota p)] })) ∧
    (e.state = .opened → e.hold p = none → x.holdings < v.settings.quota p → exec (.openIntent p w) s =
      .next (((v.bodyWrite n { e.setHold p (some ⟨1, x.epoch⟩) with note := newNote }).setSession p
          { x with holdings := x.holdings + 1 }).answered p r
        { status := .joined, payload := stampWords e.stamp ++ [wordOf 1] }))

/-- OPEN and ADOPT are refused FROZEN in FROZEN and DRAINING from a draining port (R28, R88), without a look at the journal. -/
def Obligations.FrozenAndDrainingRefuseOpenAndAdopt : Prop :=
  ∀ (p : Port) (r : Request) (k : PeerRequest) (w : SlotWear) (ws : List SlotWear) (s : State), Executes s p r k →
    (∃ key note, k = .openIntent key note) ∨ k = .adopt →
    (s.engine.state = .frozen → exec (commandFor p w ws k) s =
      .next ((s.grantStart p).answered p r { status := .frozen })) ∧
    (s.engine.state ≠ .frozen → (s.session p).state = .draining → exec (commandFor p w ws k) s =
      .next ((s.grantStart p).answered p r { status := .draining }))

/-- CLOSE of a live hold (R38 to R41), the entry `e` as its read and conversion left it in state `v`: one fewer; emptied beside
another hold; emptied last with the lost-holder mark set, made ORPHAN; emptied last without it, removed. A holdings count that
falls completes a drain when both counts are then 0: the port is DETACHED and PEER_DETACHED, with its epoch, is raised for the
other port (R41, R64). The model's choices: ORPHANS_PRESENT and the notices of a retirement come before that PEER_DETACHED (log 30);
the sweeper's request for the slot of a removed entry stands (log 18). -/
def Obligations.CloseLowersAHold : Prop :=
  ∀ (p : Port) (r : Request) (k : RegionKey) (w : SlotWear) (s : State) (n : Nat) (e : EntryBody) (h : Held),
    Executes s p r (.closeIntent k) → s.lookup k = some n →
    let v := (s.grantStart p).readSlot n w
    v.entryAt n = some e → e.hold p = some h →
    (1 < h.count → exec (.closeIntent p w) s =
      .next ((v.bodyWrite n (e.setHold p (some { h with count := h.count - 1 }))).answered p r
        { status := .closed, payload := [wordOf (h.count - 1)] })) ∧
    (h.count ≤ 1 → (e.hold p.other).isSome = true → exec (.closeIntent p w) s =
      .next (((v.bodyWrite n (e.setHold p none)).lowerHoldings p).answered p r
        { status := .closed, payload := [wordOf 0] })) ∧
    (h.count ≤ 1 → e.hold p.other = none → e.lostHolder = true → exec (.closeIntent p w) s =
      .next ((((v.bodyWrite n { e.setHold p none with state := .orphan }).joinOrphans k e.stamp).lowerHoldings p).answered p r
        { status := .orphaned, payload := stampWords e.stamp })) ∧
    (h.count ≤ 1 → e.hold p.other = none → e.lostHolder = false →
      ∃ y : State, EntryRemoved v y n ∧ y.sessions = v.sessions ∧
        exec (.closeIntent p w) s = .next ((y.lowerHoldings p).answered p r
          { status := .released, payload := stampWords e.stamp })) ∧
    (∀ y : State, ((y.session p).state = .draining ∧ (y.session p).holdings ≤ 1 ∧ (y.session p).adoptions = 0 →
        y.lowerHoldings p = (y.setSession p (ended (y.session p) .detached)).raise p.other .peerDetached
          (some ((y.session p).epoch.setWidth 32))) ∧
      (¬((y.session p).state = .draining ∧ (y.session p).holdings ≤ 1 ∧ (y.session p).adoptions = 0) →
        y.lowerHoldings p = y.setSession p { y.session p with holdings := (y.session p).holdings - 1 }))

/-- CLOSE, QUERY and RESOLVE of a key that the index does not name, or whose entry the read has lost, are answered NOT_FOUND, NONE
and NOT_FOUND (R37, R43, R92); CLOSE without a hold NOT_HELD (R37). `v` is the state after the lookup and its read. A lookup names the
slot of the live entry with the key (R12). -/
def Obligations.KeysWithoutAnEntryAreNotFound : Prop :=
  (∀ (s : State) (k : RegionKey) (n : Nat), Lawful s → (s.lookup k = some n ↔ ∃ a, s.assoc n = some a ∧ a.key = k)) ∧
  ∀ (p : Port) (r : Request) (k : RegionKey) (w : SlotWear) (s v : State),
    ((s.lookup k = none ∧ v = s.grantStart p) ∨
        (∃ n, s.lookup k = some n ∧ v = (s.grantStart p).readSlot n w ∧ v.entryAt n = none) →
      (Executes s p r (.closeIntent k) → exec (.closeIntent p w) s = .next (v.answered p r { status := .notFound })) ∧
      (Executes s p r (.query k) → exec (.query p w) s = .next (v.answered p r { status := .noEntry })) ∧
      (Executes s p r (.resolve k) → exec (.resolve p w) s = .next (v.answered p r { status := .notFound }))) ∧
    (∀ n e, s.lookup k = some n → v = (s.grantStart p).readSlot n w → v.entryAt n = some e → e.hold p = none →
      Executes s p r (.closeIntent k) → exec (.closeIntent p w) s = .next (v.answered p r { status := .notHeld }))

/-- QUERY of an entry (R43, R44) reports it as its read and conversion left it, in the layout of Table 11-2, and changes nothing
more. The bits that Table 11-2 does not name are 0, the model's choice (log 21). -/
def Obligations.QueryReportsTheEntry : Prop :=
  ∀ (p : Port) (r : Request) (k : RegionKey) (w : SlotWear) (s : State) (n : Nat) (e : EntryBody),
    Executes s p r (.query k) → s.lookup k = some n →
    let v := (s.grantStart p).readSlot n w
    v.entryAt n = some e → holdCount e.holdA ≤ 15 → holdCount e.holdB ≤ 15 → e.note.length ≤ 2 →
    exec (.query p w) s = .next (v.answered p r { status := .ok, payload := [
      wordOf (entryStateCode e.state * 2 ^ 24 + holdCount e.holdA * 2 ^ 16 + holdCount e.holdB * 2 ^ 8 +
        (bitIf e.lostHolder 0 + bitIf e.damaged 1 + bitIf e.adopter.isSome 2 + e.note.length * 2 ^ 4)),
      e.stamp.extractLsb' 32 32, e.stamp.extractLsb' 0 32,
      match e.adopter with
        | some a => wordOf (portCode a.port * 2 ^ 16 + a.epoch.toNat)
        | none => 0#32] ++ e.note })

/-- ADOPT (R88 to R90) in READY from an ATTACHED port: at most four entries, taken from the head of the list one at a time by the
turns below; NONE if none was taken, else OK, with the number taken, the sweep-pending flag and the orphans left. A turn reads with
the next storage outcome listed, or, none being left, finds the slot as it stands (log 4). Unnamed bits of the words are 0 (log
21). Both are the model's choice. -/
def Obligations.AdoptTakesFromTheHead : Prop :=
  (∀ (p : Port) (r : Request) (ws : List SlotWear) (s : State),
    Executes s p r .adopt → s.engine.state = .ready → (s.session p).state = .attached →
    let u := s.grantStart p
    let out := State.adoptLoop p u.orphanCount 4 ws u
    out.1.1 ≤ 4 ∧
    exec (.adopt p ws) s = .next (out.2.answered p r {
      status := if out.1.1 = 0 then .noEntry else .ok
      payload := wordOf (out.1.1 * 2 ^ 24 + bitIf out.2.sweeper.pending 16 + out.2.orphanCount) :: out.1.2 })) ∧
  (∀ p fuel room ws s, s.journal.orphans = [] ∨ room = 0 → State.adoptLoop p fuel room ws s = ((0, []), s)) ∧
  (∀ (p : Port) (fuel room : Nat) (ws : List SlotWear) (s : State) (o : Orphan) (rest : List Orphan) (n : Nat),
    s.journal.orphans = o :: rest → s.lookup o.key = some n →
    let v := s.readSlot n (ws.headD {})
    (∀ e, v.entryAt n = some e →
      let taken := ((v.dropOrphan o.key).bodyWrite n
        { e with state := .adopted, adopter := some ⟨p, (v.session p).epoch⟩ }).setSession p
          { v.session p with adoptions := (v.session p).adoptions + 1 }
      let others := State.adoptLoop p fuel room ws.tail taken
      State.adoptLoop p (fuel + 1) (room + 1) ws s = ((others.1.1 + 1,
        [wordOf o.key.volume.toNat, o.key.region, e.stamp.extractLsb' 32 32, e.stamp.extractLsb' 0 32,
          wordOf (bitIf e.lostHolder 0 + bitIf e.damaged 1 + e.note.length * 2 ^ 4)] ++ e.note ++ others.1.2), others.2)) ∧
    (v.entryAt n = none →
      State.adoptLoop p (fuel + 1) (room + 1) ws s = State.adoptLoop p fuel (room + 1) ws.tail (v.dropOrphan o.key)))

/-- RESOLVE (R92, R93), the entry `e` as its read and conversion left it in state `v`: removed and answered RELEASED if it is
ADOPTED by the port under its current epoch in an open session, else NOT_ADOPTER with nothing more changed. The adoptions
count falls by 1; a fall that leaves a DRAINING port with both counts 0 completes its drain, PEER_DETACHED being raised for the other
port (R64). The model's choices: the notices of a retirement come before that PEER_DETACHED (log 30); the sweeper's request for the
slot of the removed entry stands (log 18). -/
def Obligations.ResolveRemovesAnAdoptedEntry : Prop :=
  ∀ (p : Port) (r : Request) (k : RegionKey) (w : SlotWear) (s : State) (n : Nat) (e : EntryBody),
    Executes s p r (.resolve k) → s.lookup k = some n →
    let v := (s.grantStart p).readSlot n w
    let own := e.state = .adopted ∧ e.adopter = some ⟨p, (v.session p).epoch⟩ ∧ v.isOpen p = true
    v.entryAt n = some e →
    (own → ∃ y : State, EntryRemoved v y n ∧ y.sessions = v.sessions ∧
      exec (.resolve p w) s = .next ((y.lowerAdoptions p).answered p r
        { status := .released, payload := stampWords e.stamp })) ∧
    (¬own → exec (.resolve p w) s = .next (v.answered p r { status := .notAdopter })) ∧
    (∀ y : State, let drained := (y.session p).state = .draining ∧ (y.session p).adoptions ≤ 1 ∧ (y.session p).holdings = 0
      (drained → y.lowerAdoptions p = (y.setSession p (ended (y.session p) .detached)).raise p.other .peerDetached
        (some ((y.session p).epoch.setWidth 32))) ∧
      (¬drained → y.lowerAdoptions p = y.setSession p { y.session p with adoptions := (y.session p).adoptions - 1 }))

/-! Timers -/

/-- LAPSE_TIMER_EXPIRY of a running timer: a lapse with its mark, notice and fault, or, with the mark already set, the automatic
fence (R57, R58). DRAIN_TIMER_EXPIRY of a running timer ends the drain abnormally (R64). A stopped timer does not expire (R59).
That an expiry acts whatever time remains is the model's choice (log 8), and so is that the command of a stopped timer changes
nothing (log 1). -/
def Obligations.SessionTimersEndSessions : Prop :=
  ∀ (p : Port) (s : State), let x := s.session p
    (x.lapseTimer.isSome = true → x.lapseMark = false → exec (.lapseTimerExpiry p) s =
      .next ((((s.ending p .lapsed).setSession p { ended x .lapsed with lapseMark := true }).raise p.other .peerLapsed
        (some (x.epoch.setWidth 32))).capture { kind := .lapse, port := some p }).finish) ∧
    (x.lapseTimer.isSome = true → x.lapseMark = true → exec (.lapseTimerExpiry p) s =
      .next (((s.ending p .fenced).raise p.other .peerFenced (some 1#32)).capture
        { kind := .fenceByLapse, port := some p }).finish) ∧
    (x.drainTimer.isSome = true → exec (.drainTimerExpiry p) s =
      .next (((s.ending p .detached).raise p.other .peerDetached (some (x.epoch.setWidth 32))).capture
        { kind := .drainExpired, port := some p }).finish) ∧
    (x.lapseTimer = none → exec (.lapseTimerExpiry p) s = .next s) ∧
    (x.drainTimer = none → exec (.drainTimerExpiry p) s = .next s)

/-- REPEAT_TIMER_EXPIRY of a running timer (R144, R147, R148): the timer restarts with its period; each open port is sent one frame
of each kind whose flag is set, in kind order, while its queue accepts them, each with the stored payload and the next serial; the
flags stand, and nothing else changes. A stopped timer's command changes nothing, the model's choice (log 1). That the expiry acts
whatever time remains is the model's choice (log 8). -/
def Obligations.RepeatTimerSendsEverySetKind : Prop :=
  (∀ s : State, s.notices.repeatTimer = none → exec .repeatTimerExpiry s = .next s) ∧
  ∀ s : State, NoticeLaw s → s.notices.repeatTimer.isSome = true → ∃ t, exec .repeatTimerExpiry s = .next t ∧
    (∀ p, let l := s.link p
      let flags := s.notices.flags.get p
      let kinds : List NoticeKind := [.peerLapsed, .peerFenced, .entryDamaged, .journalCompromised].filter fun k => (flags.get k).isSome
      let sent := kinds.take (if s.isOpen p = true ∧ l.state = .up then 16 - l.outbound.length else 0)
      let frames : List OutFrame := sent.zipIdx.map fun x =>
        .notice x.1 (s.session p).epoch (s.notices.serials.get p + BitVec.ofNat 8 x.2) (flags.get x.1).join
      t.link p = { l with outbound := l.outbound ++ frames } ∧
      t.notices.serials.get p = s.notices.serials.get p + BitVec.ofNat 8 sent.length) ∧
    t = { s with
      links := t.links
      notices := { s.notices with serials := t.notices.serials, repeatTimer := some (s.settings.noticeRepeat * 10) } }

/-- LEAK_TIMER_EXPIRY outside INITIALIZING (R154): every bucket above 0 falls by 1 but in a RETIRED block, and the timer restarts.
SCRUB_PACE_EXPIRY (R131): a scrub grant is due and the timer stops. Neither changes anything else; a stopped timer does not
expire. That an expiry acts whatever time remains is the model's choice (log 8), and so is that the command of a stopped timer
changes nothing (log 1). -/
def Obligations.LeakAndScrubPaceExpire : Prop :=
  ∀ s : State,
    (s.integrity.leakTimer.isSome = true → s.engine.state ≠ .initializing → ∃ t, exec .leakTimerExpiry s = .next t ∧
      (∀ b, t.block b = if (s.block b).state = .retired then s.block b
        else { s.block b with bucket := (s.block b).bucket - 1 }) ∧
      t.integrity = { s.integrity with blocks := t.integrity.blocks, leakTimer := some (s.settings.leakPeriod * 1000) } ∧
      t = { s with integrity := t.integrity }) ∧
    (s.integrity.leakTimer = none ∨ s.engine.state = .initializing → exec .leakTimerExpiry s = .next s) ∧
    (s.arbiter.scrubTimer.isSome = true →
      exec .scrubPaceExpiry s = .next { s with arbiter := { s.arbiter with scrubTimer := none, scrubDue := true } }) ∧
    (s.arbiter.scrubTimer = none → exec .scrubPaceExpiry s = .next s)

/-! Slot reads -/

/-- The vote of R2 on three copies, and a slot read whose vote keeps the key and whose body is not lost (R153, R156, R157, R162),
`o` being its outcomes. In a RETIRED block, or when both outcomes are clean, the storage is as the read found it and nothing else
changes. Else the bucket rises by 1 for each correction, up to 15, each is captured, and the slot is rewritten: with its key and
fields if live, with a free write if not. A bucket that did not rise, or stands below the threshold, queues no block. The model's
choices: a bucket that stands at 15 does not rise and makes no test (log 14); a slot whose block this very read retires is still
rewritten (log 17). -/
def Obligations.ReadsVoteAndRepair : Prop :=
  (∀ a b v : KeyValue, KeyCopies.vote ⟨v, v, v⟩ v = .agree ∧
    (a ≠ v → KeyCopies.vote ⟨a, v, v⟩ v = .oneOff ∧ KeyCopies.vote ⟨v, a, v⟩ v = .oneOff ∧ KeyCopies.vote ⟨v, v, a⟩ v = .oneOff ∧
      KeyCopies.vote ⟨b, a, a⟩ v = .mismatch ∧ KeyCopies.vote ⟨a, b, a⟩ v = .mismatch ∧ KeyCopies.vote ⟨a, a, b⟩ v = .mismatch) ∧
    (∀ c, a ≠ b → a ≠ c → b ≠ c → KeyCopies.vote ⟨a, b, c⟩ v = .split)) ∧
  (∀ (s : State) (n : Nat) (w : SlotWear), n < 1024 →
    let found : StoredSlot := { s.stored n with keys := w.keys.getD (s.stored n).keys, ecc := w.ecc.getD (s.stored n).ecc }
    let o := s.readOutcome n w
    let t := s.readRaw n w
    let b := s.block (n / 64)
    let oneOff := o.vote = .oneOff
    let corrected := o.ecc = .corrected
    let rises := (if oneOff then 1 else 0) + (if corrected then 1 else 0)
    let bucket := if 0 < rises then min 15 (b.bucket + rises) else b.bucket
    o = ⟨found.keys.vote (match s.keyAt n with | some k => .key k | none => .freeMarker), found.ecc⟩ ∧
    ((b.state = .retired ∨ o = ⟨.agree, .clean⟩) → t.stored n = found ∧ (∀ m, m ≠ n → t.stored m = s.stored m) ∧
      t = { s with journal := { s.journal with store := t.journal.store } }) ∧
    (b.state ≠ .retired → (o.vote = .agree ∨ oneOff) → (o.ecc = .clean ∨ corrected) → (oneOff ∨ corrected) →
      t.stored n = (match s.keyAt n with | some k => ⟨⟨.key k, .key k, .key k⟩, (s.stored n).body, .clean⟩ | none => freeSlot) ∧
      (∀ m, m ≠ n → t.stored m = s.stored m) ∧ (t.block (n / 64)).bucket = bucket ∧
      (∀ m, m ≠ n / 64 → (t.block m).bucket = (s.block m).bucket) ∧
      t.journal.index = s.journal.index ∧ t.journal.orphans = s.journal.orphans ∧ t.journal.stamp = s.journal.stamp ∧
      t.journal.generation = s.journal.generation ∧ t.journal.compromised = s.journal.compromised ∧
      t.sessions = s.sessions ∧ t.sweeper = s.sweeper ∧ t.arbiter = s.arbiter ∧ t.service = s.service ∧
      (bucket < s.settings.bucketThreshold ∨ bucket = b.bucket →
        let key : FaultRecord := { kind := .keyCorrected, slot := some n, block := some (n / 64), key := s.keyAt n }
        let body : FaultRecord := { kind := .bodyCorrected, slot := some n, block := some (n / 64), key := s.keyAt n }
        let u := if oneOff then s.capture key else s
        t.faults = (if corrected then u.capture body else u).faults ∧ t.journal.pool = s.journal.pool ∧
        t.integrity.retireQueue = s.integrity.retireQueue ∧ (∀ m, (t.block m).state = (s.block m).state) ∧
        t.notices = s.notices ∧ t.links = s.links ∧ t.engine = s.engine) ∧
      (s.settings.bucketThreshold ≤ bucket → bucket ≠ b.bucket → b.state = .inService → n / 64 ∉ s.integrity.retireQueue →
        (s.retirementCount < 4 → n / 64 ∈ t.integrity.retireQueue ∨ (t.block (n / 64)).state ≠ .inService) ∧
        (4 ≤ s.retirementCount → (t.block (n / 64)).state = .inService ∧
          (t.faults.capacity.first.isSome = true) ∧ n / 64 ∉ t.integrity.retireQueue))))

/-- A slot read that loses something, in a block that is not RETIRED, `o` being its outcomes and the index canonical. A lost vote
on a live slot removes the entry and marks the journal compromised (R160); on another slot it withdraws it (R161). A lost body of
a live slot leaves the damaged form, at stamp 0 of the orphan list (R96, R158); of another slot, a free write (R159). The holders'
and the adopter's counts fall as the summary names them. The bucket rises to the threshold for a lost body and is left by a lost
vote, and the block is queued at once or RETIRE_LIMIT captured (R153, R158 to R161, R163); an entry lost in the block in progress
lowers the reserve (R160, R166, R169). `y` is the state in which step 3 of the read begins, its first lowering done: the notices of
the entry's loss or damage follow from there. The model's choices: what a read with a lost vote makes of its body (log 15); drains
complete with the counts, before the other notices (logs 31, 32); JOURNAL_COMPROMISED before those of the retirement (log 33); the
sweeper's request stands (log 18). -/
def Obligations.LostReadsRemoveOrDamage : Prop :=
  ∀ (s : State) (n : Nat) (w : SlotWear), n < 1024 → s.journal.index.wf = true → (s.block (n / 64)).state ≠ .retired →
    let o := s.readOutcome n w
    let t := s.readRaw n w
    let b := s.block (n / 64)
    let lost := o.vote = .split ∨ o.vote = .mismatch
    let judged : State := (if w = {} then s else s.putSlot n (w.onto (s.stored n))).judgeRead n o
    let told (k : NoticeKind) : Prop := ∀ q,
      (s.notices.held = none → ((t.notices.flags.get q).get k).isSome = true) ∧
      (∀ l, s.notices.held = some l → (⟨q, k, none⟩ : Raise) ∈ t.notices.held.getD [])
    let raisedFrom (y : State) (k : NoticeKind) : Prop :=
      t.notices = (y.raiseBoth k none).notices ∧ t.links = (y.raiseBoth k none).links
    (∀ m, m ≠ n → t.stored m = s.stored m ∧ t.assoc m = s.assoc m) ∧ (∀ m ∈ t.journal.pool, m ∈ s.journal.pool) ∧
    t.journal.stamp = s.journal.stamp ∧ t.journal.generation = s.journal.generation ∧
    t.service = s.service ∧ t.sweeper = s.sweeper ∧ t.engine.state = s.engine.state ∧
    (lost ∨ o.ecc = .uncorrectable →
      let corrected := if o.vote = .oneOff then min 15 (b.bucket + 1) else b.bucket
      (t.block (n / 64)).bucket = (if o.ecc = .uncorrectable then max corrected s.settings.bucketThreshold else corrected) ∧
      (∀ m, m ≠ n / 64 → (t.block m).bucket = (s.block m).bucket) ∧
      (b.state = .inService → n / 64 ∉ s.integrity.retireQueue →
        (s.retirementCount < 4 → (n / 64 ∈ t.integrity.retireQueue ∨ (t.block (n / 64)).state ≠ .inService) ∧
          t.faults.capacity = s.faults.capacity) ∧
        (4 ≤ s.retirementCount → (t.block (n / 64)).state = .inService ∧ n / 64 ∉ t.integrity.retireQueue ∧
          t.faults.capacity = (s.capture { kind := .retireLimit, block := some (n / 64) }).faults.capacity)) ∧
      (b.state ≠ .inService ∨ n / 64 ∈ s.integrity.retireQueue → t.faults.capacity = s.faults.capacity)) ∧
    (s.inProgress = some (n / 64) → s.integrity.retireQueue = [] →
      (lost → s.assoc n ≠ none → t.integrity.reserve = s.integrity.reserve - 1 ∧
        (s.engine.state = .ready → s.integrity.reserve ≤ 1 → (t.block (n / 64)).state = .retired)) ∧
      (¬lost ∨ s.assoc n = none → t.integrity.reserve = s.integrity.reserve)) ∧
    (∀ a, s.assoc n = some a → lost → let y := judged.lowerHolders a.summary
      t.stored n = freeSlot ∧ t.assoc n = none ∧ t.journal.orphans = s.journal.orphans.filter (fun x => x.key ≠ a.key) ∧
      t.journal.compromised = true ∧ told .journalCompromised ∧ (∀ q, t.session q = s.lowered q a.summary) ∧
      t.arbiter = s.arbiterWithout n ∧
      (y.closingDue = false → (y.engine.state = .ready → y.inProgress.isSome = true → 1 < y.integrity.reserve) →
        raisedFrom y .journalCompromised) ∧
      t.faults.storeLost = (s.capture { kind := .keyLost, slot := some n, block := some (n / 64), key := some a.key }).faults.storeLost) ∧
    (s.assoc n = none → lost → let y := judged
      t.stored n = freeSlot ∧ t.assoc n = none ∧ n ∉ t.journal.pool ∧ t.journal.orphans = s.journal.orphans ∧
      t.journal.compromised = s.journal.compromised ∧ t.sessions = s.sessions ∧ t.arbiter = s.arbiter ∧
      (n ∈ y.journal.pool → y.closingDue = false → (y.engine.state = .ready → y.inProgress.isSome = true → 0 < y.integrity.reserve) →
        t.journal.pool = y.journal.pool.filter (fun m => m ≠ n) ∧ LowWater y t t.pooled) ∧
      t.faults.storeLost = (s.capture { kind := .keyLost, slot := some n, block := some (n / 64) }).faults.storeLost) ∧
    (∀ a, s.assoc n = some a → ¬lost → o.ecc = .uncorrectable → let y := judged.lowerHolders a.summary
      t.stored n = ⟨⟨.key a.key, .key a.key, .key a.key⟩, .entry { state := .orphan, holdA := none, holdB := none, lostHolder := false
                                                                   damaged := true, stamp := 0#64, note := [], adopter := none }, .clean⟩ ∧
      t.assoc n = some { key := a.key, summary := { holdA := none, holdB := none, adopter := none } } ∧
      t.journal.orphans = insertOrphan ⟨a.key, 0#64⟩ (s.journal.orphans.filter fun x => x.key ≠ a.key) ∧
      t.journal.compromised = s.journal.compromised ∧ told .entryDamaged ∧ (∀ q, t.session q = s.lowered q a.summary) ∧
      t.arbiter = s.arbiter ∧
      raisedFrom (if s.journal.orphans = [] then y.raiseBoth .orphansPresent (some 1#32) else y) .entryDamaged ∧
      t.faults.storeLost = (s.capture { kind := .bodyLost, slot := some n, block := some (n / 64), key := some a.key }).faults.storeLost) ∧
    (s.assoc n = none → ¬lost → o.ecc = .uncorrectable →
      t.stored n = freeSlot ∧ t.assoc n = none ∧ t.journal.orphans = s.journal.orphans ∧
      t.journal.compromised = s.journal.compromised ∧ t.sessions = s.sessions ∧ t.arbiter = s.arbiter ∧
      t.notices = judged.notices ∧ t.links = judged.links ∧
      t.faults.storeLost = (s.capture { kind := .bodyLost, slot := some n, block := some (n / 64) }).faults.storeLost)

/-- Conversion on touch (R75 to R77, R80, R83), step 4 of a slot read, of the entry `e` with key `k` in slot `n`. Nothing to convert:
nothing changes. An OPEN entry with a dead hold: dead holds emptied, the lost-holder mark set, ORPHAN if no hold is left. An
ADOPTED entry with a dead adopter: ORPHAN, the adopter absent. A new ORPHAN joins the list behind the entries of no greater stamp,
and ORPHANS_PRESENT is raised for both ports if the list was empty: sent at once to the attached ports where no reply is to come
(a sweep, scrub or relocation read), else, for the attached ports, held behind that reply. The model's choices: that raises are held
in a list (log 11), and A before B in it (log 30). -/
def Obligations.TouchedEntriesConvert : Prop :=
  (∀ (s : State) (n : Nat) (w : SlotWear), s.readSlot n w = (s.readRaw n w).convertOnTouch n) ∧
  (∀ (o : Orphan) (l : List Orphan), insertOrphan o l =
    l.takeWhile (fun x => x.stamp.toNat ≤ o.stamp.toNat) ++ o :: l.dropWhile (fun x => x.stamp.toNat ≤ o.stamp.toNat)) ∧
  ∀ (s : State) (n : Nat) (k : RegionKey) (e : EntryBody), s.keyAt n = some k → s.entryAt n = some e →
    let live (q : Port) (epoch : Epoch) : Bool := decide (epoch = (s.session q).epoch) && s.isOpen q
    let dead (q : Port) : Bool := match e.hold q with | some h => !live q h.epoch | none => false
    let deadAdopter : Bool := match e.adopter with | some a => !live a.port a.epoch | none => false
    let t := s.convertOnTouch n
    let wrote (x : EntryBody) : Prop :=
      t.stored n = { s.stored n with body := .entry x, ecc := .clean } ∧ t.entryAt n = some x ∧ t.keyAt n = some k ∧
      (∀ m, m ≠ n → t.stored m = s.stored m ∧ t.assoc m = s.assoc m)
    let joined : Prop :=
      t.journal.orphans = insertOrphan ⟨k, e.stamp⟩ (s.journal.orphans.filter fun x => x.key ≠ k) ∧
      (s.journal.orphans ≠ [] → t.notices = s.notices ∧ t.links = s.links) ∧
      (s.journal.orphans = [] → t.notices = (s.raiseBoth .orphansPresent (some 1#32)).notices ∧
        t.links = (s.raiseBoth .orphansPresent (some 1#32)).links) ∧
      (∀ l, s.journal.orphans = [] → s.notices.held = some l →
        t.notices.held = some (l ++ ([.a, .b].filter fun q => s.isOpen q).map fun q => ⟨q, .orphansPresent, some 1#32⟩)) ∧
      (s.journal.orphans = [] → s.notices.held = none → ∀ q, (t.link q).outbound = (s.link q).outbound ++
        if s.isOpen q = true ∧ (s.link q).state = .up ∧ (s.link q).outbound.length < 16
        then [.notice .orphansPresent (s.session q).epoch (s.notices.serials.get q) (some 1#32)] else [])
    let kept := if dead .a then none else e.holdA
    let keptB := if dead .b then none else e.holdB
    ((e.state = .opened ∧ dead .a = false ∧ dead .b = false) ∨ e.state = .orphan ∨ (e.state = .adopted ∧ deadAdopter = false) →
      t = s) ∧
    (e.state = .opened → dead .a = true ∨ dead .b = true → kept.isSome = true ∨ keptB.isSome = true →
      wrote { e with holdA := kept, holdB := keptB, lostHolder := true } ∧ t.journal.orphans = s.journal.orphans ∧
      t.notices = s.notices ∧ t.links = s.links) ∧
    (e.state = .opened → dead .a = true ∨ dead .b = true → kept = none → keptB = none →
      wrote { e with state := .orphan, holdA := none, holdB := none, lostHolder := true } ∧ joined) ∧
    (e.state = .adopted → deadAdopter = true → wrote { e with state := .orphan, adopter := none } ∧ joined) ∧
    t.journal.pool = s.journal.pool ∧ t.journal.stamp = s.journal.stamp ∧ t.journal.generation = s.journal.generation ∧
    t.journal.compromised = s.journal.compromised ∧ t.sessions = s.sessions ∧ t.engine = s.engine ∧ t.arbiter = s.arbiter ∧
    t.sweeper = s.sweeper ∧ t.integrity = s.integrity ∧ t.service = s.service ∧ t.faults = s.faults

/-! The part's own engines -/

/-- SCRUB_READ at a scrub grant (R131, R171): the indicator cleared, the timer restarted, the pointer standing; the slot at the scrub
position read, or the first of the next block that is not RETIRED; the position then behind it. SWEEP_STEP at a sweep grant
(R86, R87): the slot read if it is live still, the position advanced, the pass complete at the end marker. SWEEP_ADVANCE: the same
past a slot that is not live, without a grant, unless a request made when it was live stands (log 18, the model's choice). Out of
turn none changes anything (log 1, the model's choice). -/
def Obligations.ScrubberAndSweeperWalkTheSlots : Prop :=
  ∀ (s : State) (w : SlotWear), Lawful s →
    (s.nextGrant = some .scrubber → let t := s.beginScrub; let pos := s.integrity.scrubPosition
      t.arbiter = { s.arbiter with
        scrubDue := false, lastWasScrub := true
        scrubTimer := if s.settings.scrubPace = 0 then none else some s.settings.scrubPace } ∧
      ∃ n, let u := t.readSlot n w
        exec (.scrubRead w) s = .next (u.setIntegrity { u.integrity with scrubPosition := (n + 1) % 1024 }).finish ∧
        ((t.block (pos / 64)).state ≠ .retired → n = pos) ∧
        ((t.block (pos / 64)).state = .retired → ∃ d, 1 ≤ d ∧ d < 16 ∧ n = (pos / 64 + d) % 16 * 64 ∧
          (t.block ((pos / 64 + d) % 16)).state ≠ .retired ∧
          ∀ i, 1 ≤ i → i < d → (t.block ((pos / 64 + i) % 16)).state = .retired)) ∧
    (let pos := (s.sweeper.position + 1) % 1024
      let next : Sweeper := { s.sweeper with position := pos, pending := decide (pos ≠ s.sweeper.endMarker) }
      let moved (x : State) : State := { x with sweeper := next, arbiter := { x.arbiter with sweepRequest := false } }
      (s.nextGrant = some (.place .sweeper) → let t := s.beginGrant .sweeper
        exec (.sweepStep w) s = .next (moved (if s.condition s.sweeper.position = .live
          then t.readSlot s.sweeper.position w else t)).finish) ∧
      (s.sweeper.pending = true → s.engine.state ≠ .initializing → s.condition s.sweeper.position ≠ .live →
        s.arbiter.sweepRequest = false → exec .sweepAdvance s = .next (moved s))) ∧
    (s.nextGrant ≠ some .scrubber → exec (.scrubRead w) s = .next s) ∧
    (s.nextGrant ≠ some (.place .sweeper) → exec (.sweepStep w) s = .next s) ∧
    (s.sweeper.pending = false ∨ s.engine.state = .initializing ∨ s.condition s.sweeper.position = .live ∨
      s.arbiter.sweepRequest = true → exec .sweepAdvance s = .next s)

/-- RELOCATION_MOVE at a relocator grant (R167, R169): the lowest live slot `n` of the block in progress is read, to the state `v`. If
its entry stands, it moves to the head free slot `m` as the read and conversion left it: slot `m` holds it and is named for its
key, slot `n` is free and unnamed, everything else of the journal stands, and the last move retires the block. If the read lost
the entry, nothing moves. The fall of the pooled free count makes the low-water test (R45), before the BLOCK_RETIRED of a last move.
The model's choices: the sweeper's request for slot `n` stands (log 18); out of turn nothing happens (log 1). -/
def Obligations.RelocationMovesAnEntry : Prop :=
  ∀ (s : State) (w : SlotWear), Lawful s →
    (s.nextGrant = some (.place .relocator) → ∃ b n, s.inProgress = some b ∧ s.lowestLive b = some n ∧
      n / 64 = b ∧ s.assoc n ≠ none ∧ (∀ i, i < n → i / 64 = b → s.assoc i = none) ∧
      let v := (s.beginGrant .relocator).readSlot n w
      (v.entryAt n = none → exec (.relocationMove w) s = .next v.finish) ∧
      (∀ e m rest, v.entryAt n = some e → v.journal.pool = m :: rest →
        ∃ y : State, exec (.relocationMove w) s = .next y.finish ∧
          y.assoc n = none ∧ y.keyAt m = v.keyAt n ∧ y.entryAt m = some e ∧
          (∀ k, v.keyAt n = some k → y.stored m = ⟨⟨.key k, .key k, .key k⟩, .entry e, .clean⟩) ∧ y.stored n = freeSlot ∧
          (∀ i, i ≠ n → i ≠ m → y.stored i = v.stored i ∧ y.assoc i = v.assoc i) ∧
          y.journal.orphans = v.journal.orphans ∧ y.journal.stamp = v.journal.stamp ∧
          y.journal.generation = v.journal.generation ∧ y.journal.compromised = v.journal.compromised ∧
          y.sessions = v.sessions ∧ y.faults = v.faults ∧ y.service = v.service ∧ y.sweeper = v.sweeper ∧
          (v.integrity.retireQueue = [] → y.journal.pool = rest) ∧
          y.arbiter = v.arbiterWithout n ∧
          (v.integrity.reserve = 1 → (y.block b).state = .retired ∧ (v.integrity.retireQueue = [] →
            ∃ z : State, LowWater v z rest.length ∧ z.sessions = v.sessions ∧ y.engine = z.engine ∧
              y.notices = (z.raiseBoth .blockRetired (some (wordOf b))).notices ∧
              y.links = (z.raiseBoth .blockRetired (some (wordOf b))).links)) ∧
          (1 < v.integrity.reserve → LowWater v y rest.length) ∧
          (1 < v.integrity.reserve → y.integrity.reserve = v.integrity.reserve - 1 ∧ y.journal.pool = rest))) ∧
    (s.nextGrant ≠ some (.place .relocator) → exec (.relocationMove w) s = .next s)

/-- INITIALISER_WRITE at the initialiser's grant (R124): a free write of the slot at the position, which joins the pool's tail.
INITIALISER_ADVANCE past a slot of a RETIRED block: neither. Both advance the position; past slot 1023 the engine is READY, or
FROZEN if a freeze is remembered, with FREEZE_CHANGED (R129), and the scrub pace and leak timers run (R131, R154). The
last part spells both out whole, with the re-arm test of R46 and, at a last write into READY, the entry of the queued blocks to
CLOSING (R165, R170). The model's choices: the position stands at 1024 after the end (log 27); an entry to CLOSING which withdraws no
pooled slot makes no low-water test (log 16); out of turn neither changes anything (log 1). -/
def Obligations.InitialiserFillsThePool : Prop :=
  ∀ s : State, Lawful s → let pos := s.engine.initPos
    let advanced (t : State) : Prop :=
      t.engine.initPos = pos + 1 ∧
      (pos < 1023 → t.engine.state = .initializing ∧ t.engine.rememberedFreeze = s.engine.rememberedFreeze ∧
        t.integrity = s.integrity ∧ t.notices = s.notices ∧ t.arbiter.scrubTimer = s.arbiter.scrubTimer) ∧
      (pos = 1023 → t.engine.state = (if s.engine.rememberedFreeze = true then .frozen else .ready) ∧
        t.engine.rememberedFreeze = false ∧
        t.arbiter.scrubTimer = (if s.settings.scrubPace = 0 then none else some s.settings.scrubPace) ∧
        t.integrity.leakTimer = some (s.integrity.leakTimer.getD (s.settings.leakPeriod * 1000))) ∧
      t.journal.index = s.journal.index ∧ t.journal.orphans = s.journal.orphans ∧ t.journal.stamp = s.journal.stamp ∧
      t.journal.generation = s.journal.generation ∧ t.journal.compromised = s.journal.compromised ∧
      t.sessions = s.sessions ∧ t.sweeper = s.sweeper ∧ t.service = s.service ∧ t.faults = s.faults ∧ t.resetCtl = s.resetCtl ∧
      t.arbiter.scrubDue = s.arbiter.scrubDue ∧ (∀ m, m ≠ pos → t.stored m = s.stored m) ∧
      (∀ q, s.isOpen q = false → t.link q = s.link q)
    let unqueued := pos < 1023 ∨ s.engine.rememberedFreeze = true ∨ s.integrity.retireQueue = []
    (s.nextGrant = some (.place .initialiser) → ∃ t, exec .initialiserWrite s = .next t ∧ advanced t ∧
      t.stored pos = freeSlot ∧ t.arbiter.pointer = .initialiser ∧
      (unqueued → t.journal.pool = s.journal.pool ++ [pos])) ∧
    (s.engine.state = .initializing → (s.block (pos / 64)).state = .retired → ∃ t, exec .initialiserAdvance s = .next t ∧
      advanced t ∧ t.stored pos = s.stored pos ∧ t.arbiter.pointer = s.arbiter.pointer ∧ t.journal.pool = s.journal.pool) ∧
    (let written : State := { s with
       arbiter := { s.arbiter with pointer := .initialiser, lastWasScrub := false }
       journal := { s.journal with store := SlotMap.insert pos freeSlot s.journal.store, pool := s.journal.pool ++ [pos] }
       engine := { s.engine with armed := s.rearmedAt (s.journal.pool.length + 1) } }
     let ends := pos = 1023 ∧ s.engine.rememberedFreeze = true
     (s.nextGrant = some (.place .initialiser) → ¬ends → unqueued →
       exec .initialiserWrite s = .next written.initAdvanced.finish) ∧
     (s.nextGrant = some (.place .initialiser) → ¬ends →
       exec .initialiserWrite s = .next written.initAdvanced.enterIfDue.finish) ∧
     (∀ b rest, s.nextGrant = some (.place .initialiser) → pos = 1023 → ¬ends → s.integrity.retireQueue = b :: rest →
       ∃ y, EntersClosing written.initAdvanced y b rest ∧ exec .initialiserWrite s = .next y.enterIfDue.finish) ∧
     (s.nextGrant = some (.place .initialiser) → ends →
       exec .initialiserWrite s = .next (written.initAdvanced.raiseBoth .freezeChanged (some 2#32)).finish) ∧
     (s.engine.state = .initializing → (s.block (pos / 64)).state = .retired → ¬ends →
       exec .initialiserAdvance s = .next s.initAdvanced.finish) ∧
     (s.engine.state = .initializing → (s.block (pos / 64)).state = .retired → ends →
       exec .initialiserAdvance s = .next (s.initAdvanced.raiseBoth .freezeChanged (some 2#32)).finish)) ∧
    (s.nextGrant ≠ some (.place .initialiser) → exec .initialiserWrite s = .next s) ∧
    (s.engine.state ≠ .initializing ∨ (s.block (pos / 64)).state ≠ .retired → exec .initialiserAdvance s = .next s)

/-! The service port -/

/-- The numbers and ranges of the twelve settings (R180, Table 11-8); and GET_SETTING and SET_SETTING, the port not BUSY (R131,
R155, R180, R181, R193): an unknown number answers RANGE; a value out of its setting's range RANGE with the value held, nothing
changed; a value held already OK, nothing changed; any other is held from then on, the other settings standing, with the effects of
ALERT_ENABLE, SCRUB_PACE and a lowered BUCKET_THRESHOLD in the same event. -/
def Obligations.SettingsAreReadAndWritten : Prop :=
  (∀ x ∈ ([(1, .lapsePeriodA, 1, 255), (2, .lapsePeriodB, 1, 255), (3, .drainLimit, 1, 255), (4, .noticeRepeat, 1, 255),
      (5, .quotaA, 1, 1024), (6, .quotaB, 1, 1024), (7, .lowWater, 0, 1023), (8, .bucketThreshold, 1, 15),
      (9, .leakPeriod, 1, 65535), (10, .scrubPace, 0, 65535), (11, .fencePeerEnable, 0, 1), (12, .alertEnable, 0, 31)] :
      List (Byte × SettingName × Nat × Nat)),
    SettingName.ofNumber x.1 = some x.2.1 ∧ x.2.1.bounds = x.2.2) ∧
  (∀ number : Byte, number.toNat = 0 ∨ 12 < number.toNat → SettingName.ofNumber number = none) ∧
  ∀ (number : Byte) (value : Half) (s : State), s.service.target ≠ .busy →
    let bytes (v : Nat) : List Byte := [BitVec.ofNat 8 (v / 256), BitVec.ofNat 8 v]
    (SettingName.ofNumber number = none →
      exec (.getSetting number) s = .next (s.withResult { status := .range }) ∧
      exec (.setSetting number value) s = .next (s.withResult { status := .range })) ∧
    (∀ k, SettingName.ofNumber number = some k → let old := s.settings.get k; let new := value.toNat
      exec (.getSetting number) s = .next (s.withResult { status := .ok, data := bytes old }) ∧
      (new < k.bounds.1 ∨ k.bounds.2 < new →
        exec (.setSetting number value) s = .next (s.withResult { status := .range, data := bytes old })) ∧
      (new = old → k.bounds.1 ≤ new → new ≤ k.bounds.2 →
        exec (.setSetting number value) s = .next (s.withResult { status := .ok, data := bytes new })) ∧
      (k.bounds.1 ≤ new → new ≤ k.bounds.2 → new ≠ old →
        let held := s.settings.put k new
        let u : State := { s with service := { s.service with settings := held } }
        let done (x : State) : Prop :=
          exec (.setSetting number value) s = .next (x.withResult { status := .ok, data := bytes new })
        held.get k = new ∧ (∀ k', k' ≠ k → held.get k' = s.settings.get k') ∧
        (k ≠ .alertEnable → k ≠ .scrubPace → k ≠ .bucketThreshold → done u) ∧
        (k = .alertEnable → done { u with faults := { s.faults with alert := alertCondition s.faults (BitVec.ofNat 5 new) } }) ∧
        (k = .scrubPace → new = 0 → done { u with arbiter := { s.arbiter with scrubTimer := none, scrubDue := false } }) ∧
        (k = .scrubPace → old = 0 → s.engine.state ≠ .initializing →
          done { u with arbiter := { s.arbiter with scrubTimer := some new } }) ∧
        (k = .scrubPace → new ≠ 0 → old ≠ 0 ∨ s.engine.state = .initializing → done u) ∧
        (k = .bucketThreshold → old < new → done u) ∧
        (k = .bucketThreshold → new < old →
          let due := (List.range 16).filter fun b =>
            decide ((s.block b).state = .inService ∧ b ∉ s.integrity.retireQueue ∧ new ≤ (s.block b).bucket)
          let room := 4 - s.retirementCount
          done { u with
            integrity := { s.integrity with retireQueue := s.integrity.retireQueue ++ due.take room }
            faults := ((due.drop room).foldl (fun x b => x.capture { kind := .retireLimit, block := some b }) s).faults })))

/-- The codes of R199, Table 11-6 and Table 11-9 with the classes of R188, the bits of a set, and the bytes of a field (R201); the
values that reports show and no block stores (R1, R16, R82, R163, R166), and the line of R193. Then READ_VIEW and IDENTIFY, the
port not BUSY: the five views laid out as Table 11-9 gives (R182, R203), RANGE for another number, the identity of R202. They
change nothing but the port. The sixteen-bit fields and absent fields of the FAULTS view are as log 21 says. -/
def Obligations.ViewsAndIdentityAreLaidOut : Prop :=
  ([.detached, .attached, .draining, .lapsed, .fenced] : List SessionState).map SessionState.code = [0, 1, 2, 3, 4] ∧
  ([.initializing, .ready, .frozen] : List EngineState).map EngineState.code = [0, 1, 2] ∧
  ([.opened, .orphan, .adopted] : List EntryState).map entryStateCode = [1, 2, 3] ∧
  ([.a, .b] : List Port).map portCode = [0, 1] ∧
  ([.down, .training, .up] : List LinkState).map LinkState.code = [0, 1, 2] ∧
  ([.inService, .closing, .moving, .retired] : List BlockState).map BlockState.code = [0, 1, 2, 3] ∧
  ([.agree, .oneOff, .split, .mismatch] : List VoteOutcome).map voteCode = [0, 1, 2, 3] ∧
  ([.clean, .corrected, .uncorrectable] : List EccOutcome).map eccCode = [0, 1, 2] ∧
  ([.live, .pooled, .withdrawn] : List SlotCondition).map SlotCondition.code = [1, 2, 3] ∧
  ([.powerOn, .warmPin, .warmService, .clearing] : List ResetCause).map ResetCause.code = [1, 2, 3, 4] ∧
  ([.link, .storeCorrected, .storeLost, .session, .capacity] : List FaultClass).map FaultClass.bit = [0, 1, 2, 3, 4] ∧
  (∀ x ∈ ([(.link, [.crc, .malformed, .overrun, .linkDown]), (.storeCorrected, [.bodyCorrected, .keyCorrected]),
      (.storeLost, [.bodyLost, .keyLost]), (.session, [.lapse, .fenceByLapse, .fenceByPeer, .fenceByService, .drainExpired]),
      (.capacity, [.journalFull, .quota, .retireLimit])] : List (FaultClass × List FaultKind)),
    x.2.map FaultKind.code = List.range' 1 x.2.length ∧ ∀ k ∈ x.2, k.faultClass = x.1) ∧
  (∀ k : FaultKind, k.bit = BitVec.ofNat 5 (2 ^ (k.code - 1))) ∧
  (∀ f : PendingFlags, f.setCode = (if f.peerLapsed.isSome = true then 1 else 0) + (if f.peerFenced.isSome = true then 2 else 0) +
    (if f.entryDamaged.isSome = true then 4 else 0) + (if f.journalCompromised.isSome = true then 8 else 0)) ∧
  (∀ (b : Bool) (i : Nat), bitIf b i = if b = true then 2 ^ i else 0) ∧
  (∀ k n : Nat, bytesOf k n = (List.range k).map fun i => BitVec.ofNat 8 (n / 256 ^ (k - 1 - i))) ∧
  (∀ s : State, (∀ p, s.isOpen p = true ↔ (s.session p).state = .attached ∨ (s.session p).state = .draining) ∧
    (∀ n, s.condition n = if s.assoc n ≠ none then .live else if n ∈ s.journal.pool then .pooled else .withdrawn) ∧
    s.pooled = s.journal.pool.length ∧ s.orphanCount = s.journal.orphans.length ∧
    (∀ b, s.liveInBlock b = s.journal.index.countP fun x => x.1 / 64 = b) ∧
    (∀ b, s.inProgress = some b → b < 16 ∧ ((s.block b).state = .closing ∨ (s.block b).state = .moving)) ∧
    (s.inProgress = none → ∀ b, (s.block b).state ≠ .closing ∧ (s.block b).state ≠ .moving) ∧
    s.retirementCount = ((List.range 16).filter fun b => (s.block b).state = .retired).length +
      (if s.inProgress = none then 0 else 1) + s.integrity.retireQueue.length) ∧
  (∀ (f : Faults) (enable : BitVec 5), alertCondition f enable = true ↔
    ∃ c : FaultClass, enable.getLsbD c.bit = true ∧ (f.get c).first ≠ none) ∧
  ∀ s : State, s.service.target ≠ .busy →
    let answers (c : Instr) (data : List Byte) : Prop := exec c s = .next (s.withResult { status := .ok, data := data })
    let sessions (p : Port) : List (Nat × Nat) :=
      let x := s.session p; let l := s.link p; let f := s.notices.flags.get p
      [(1, x.state.code), (2, x.epoch.toNat), (1, bitIf x.lapseMark 0 + bitIf x.clearedSince 1 + bitIf x.fenceLine 2),
       (2, x.holdings), (2, x.adoptions), (2, x.lapseTimer.getD 0xFFFF), (2, x.drainTimer.getD 0xFFFF), (1, l.state.code),
       (1, l.requests.length), (1, l.cache.length), (1, l.outbound.length), (1, f.setCode),
       (2, (f.peerLapsed.join.getD 0).toNat), (1, (f.peerFenced.join.getD 0).toNat), (1, (s.notices.serials.get p).toNat)]
    let faults (c : FaultClass) : List (Nat × Nat) :=
      let r := s.faults.get c
      match r.first with
      | some f => [(1, 128 + f.kind.code), (1, r.later.toNat),
          (1, bitIf f.port.isSome 0 + bitIf f.slot.isSome 1 + bitIf f.block.isSome 2 + bitIf f.key.isSome 3),
          (1, (f.port.map portCode).getD 0xFF), (2, f.slot.getD 0xFFFF), (1, f.block.getD 0xFF),
          (1, (f.key.map fun k => k.volume.toNat).getD 0), (4, (f.key.map fun k => k.region.toNat).getD 0), (6, f.uptime.toNat)]
      | none => [(1, 0), (1, r.later.toNat), (1, 0), (1, 0xFF), (2, 0xFFFF), (1, 0xFF), (1, 0), (4, 0), (6, 0)]
    answers (.readView 1) (layout (sessions .a ++ sessions .b)) ∧
    answers (.readView 2) (layout [(1, s.engine.state.code),
      (1, bitIf s.engine.rememberedFreeze 0 + bitIf s.journal.compromised 1 + bitIf s.engine.armed 2 + bitIf s.sweeper.pending 3),
      (2, if s.engine.state = .initializing then s.engine.initPos else 0xFFFF), (2, s.journal.index.length),
      (2, s.journal.pool.length), (2, s.journal.orphans.length), (8, s.journal.stamp.toNat), (2, s.journal.generation.toNat),
      (2, s.sweeper.position), (2, s.sweeper.endMarker)]) ∧
    answers (.readView 3) (layout (((List.range 16).flatMap fun b => [(1, (s.block b).state.code), (1, (s.block b).bucket)]) ++
      [(1, s.integrity.retireQueue.length)] ++ ((List.range 4).map fun i => (1, s.integrity.retireQueue[i]?.getD 0xFF)) ++
      [(1, s.inProgress.getD 0xFF), (1, s.integrity.reserve), (1, s.retirementCount), (2, s.integrity.scrubPosition)])) ∧
    answers (.readView 4) (layout (faults .link ++ faults .storeCorrected ++ faults .storeLost ++ faults .session ++
      faults .capacity ++ [(1, s.settings.alertEnable.toNat), (1, bitIf s.faults.alert 0)])) ∧
    answers (.readView 5) (layout [(1, s.resetCtl.cause.code), (6, s.resetCtl.resetUptime.toNat), (6, s.resetCtl.uptime.toNat)]) ∧
    (∀ v : Byte, v.toNat = 0 ∨ 5 < v.toNat → exec (.readView v) s = .next (s.withResult { status := .range })) ∧
    answers .identify [0x24, 0x10, 0x01, 0x00]

/-- FENCE, UNFENCE and CLEAR_MARK of the service port, the port not BUSY (R67, R70, R71): RANGE for a parameter that names no port;
ALREADY for a FENCE of a FENCED port and an UNFENCE of another; else the fence with its notice and fault, DETACHED with the line
released, the mark cleared. -/
def Obligations.ServicePortFencesAndUnfences : Prop :=
  ∀ (b : Byte) (s : State), s.service.target ≠ .busy →
    (2 ≤ b.toNat → ∀ c, c = .fence b ∨ c = .unfence b ∨ c = .serviceClearMark b →
      exec c s = .next (s.withResult { status := .range })) ∧
    ∀ p, b.toNat = (match p with | .a => 0 | .b => 1) → let x := s.session p
      (x.state = .fenced → exec (.fence b) s = .next (s.withResult { status := .already })) ∧
      (x.state ≠ .fenced → exec (.fence b) s =
        .next (((((s.ending p .fenced).raise p.other .peerFenced (some 3#32)).capture
          { kind := .fenceByService, port := some p }).judgeRepeat).withResult { status := .ok })) ∧
      (x.state = .fenced → exec (.unfence b) s =
        .next ((s.setSession p { x with state := .detached, fenceLine := false }).withResult { status := .ok })) ∧
      (x.state ≠ .fenced → exec (.unfence b) s = .next (s.withResult { status := .already })) ∧
      exec (.serviceClearMark b) s = .next ((s.setSession p { x with lapseMark := false }).withResult { status := .ok })

/-- CLEAR_FAULTS, the port not BUSY (R192, R193): the class records the set names are emptied, the others stand, ALERT_N is judged
in the same event; a set with a bit above the five answers RANGE and changes nothing. -/
def Obligations.ClearFaultsEmptiesNamedClasses : Prop :=
  ∀ (classes : Byte) (s : State), s.service.target ≠ .busy →
    (classes.toNat < 32 → ∃ t : State, exec (.clearFaults classes) s = .next (t.withResult { status := .ok }) ∧
      (∀ c : FaultClass, t.faults.get c = if classes.getLsbD c.bit = true then { first := none, later := 0#5 } else s.faults.get c) ∧
      t.faults.alert = alertCondition t.faults s.settings.alertEnable ∧ t = { s with faults := t.faults }) ∧
    (32 ≤ classes.toNat → exec (.clearFaults classes) s = .next (s.withResult { status := .range }))

/-- Writes to the service port (R174 to R176, R178, R184), and its bus (R174, R175, R177, R187): a START or repeated START with an
address, in every target state and direction, with its acknowledgement, an unfinished write being abandoned; a data byte written,
acknowledged up to the 16th; a STOP; a whole write as START, bytes and STOP; a whole read, which sends the count, the status and
the data, then all ones, and leaves the port IDLE. The bus events have no row of the table (log 20). BUSY: none of the commands
that arrive as a write changes anything. Not BUSY: an accepted request that needs a grant empties the result buffer, makes the port
BUSY and waits; a malformed write leaves BAD_FORMAT, a well-formed one of unknown code UNKNOWN, a WARM_RESET of another option
RANGE (log 19), an empty write no result; a write that is another command's changes nothing here (log 1). The thirteen request codes
and their parameter lengths are those of R179 and Table 11-7. -/
def Obligations.ServiceWritesAreJudged : Prop :=
  (∀ (s : State) (a : BitVec 7) (d : BusDirection),
    let idle : ServicePort := { s.service with target := .idle, collection := [], overlong := false, sent := 0 }
    (s.service.target = .busy → s.busStart a d = (false, s)) ∧
    (s.service.target ≠ .busy → a ≠ s.service.address → s.busStart a d = (false, { s with service := idle })) ∧
    (s.service.target ≠ .busy → a = s.service.address → s.busStart a d =
      (true, { s with service := { idle with target := match d with | .write => .receiving | .read => .sending } }))) ∧
  (∀ (s : State) (b : Byte), let c := s.service.collection
    (s.service.target = .receiving → c.length < 16 → s.busByte b = (true, { s with service := { s.service with collection := c ++ [b] } })) ∧
    (s.service.target = .receiving → 16 ≤ c.length → s.busByte b = (false, { s with service := { s.service with overlong := true } })) ∧
    (s.service.target ≠ .receiving → s.busByte b = (false, s))) ∧
  (∀ s : State,
    (s.service.target = .idle ∨ s.service.target = .busy → s.busStop = s) ∧
    (s.service.target = .sending → s.busStop = { s with service := { s.service with target := .idle, sent := 0 } }) ∧
    (s.service.target = .receiving → s.service.collection = [] →
      s.busStop = { s with service := { s.service with target := .idle, collection := [], overlong := false } })) ∧
  (∀ (s : State) (bytes : List Byte), s.service.target ≠ .busy → s.write bytes =
    some (bytes.foldl (fun t b => (t.busByte b).2) (s.busStart s.service.address .write).2).busStop) ∧
  (∀ (s : State) (n : Nat),
    let buffer : List Byte := match s.service.result with
      | none => [1#8, 0x07#8]
      | some r => BitVec.ofNat 8 (1 + r.data.length) :: r.status.code :: r.data
    (s.service.target = .busy → s.read n = none) ∧
    (s.service.target ≠ .busy → s.read n = some ((List.range n).map fun i => some (buffer[i]?.getD 0xFF#8),
      { s with service := { s.service with target := .idle, collection := [], overlong := false, sent := 0 } }))) ∧
  ([.ok, .already, .range, .limit, .notReady, .badFormat, .unknown, .noResult] : List ServiceStatus).map ServiceStatus.code =
    [0x00, 0x01, 0x02, 0x03, 0x04, 0x05, 0x06, 0x07] ∧
  (∀ code : Byte, paramLength code = (([(0x01, 1), (0x02, 3), (0x03, 1), (0x04, 2), (0x05, 0), (0x10, 1), (0x11, 1), (0x12, 1), (0x20, 0),
    (0x21, 0), (0x22, 1), (0x30, 1), (0x31, 1)] : List (Byte × Nat)).find? fun x => x.1 = code).map Prod.snd) ∧
  (∀ (c : Instr) (code : Byte) (rest : List Byte), writeOf c = some (code :: rest) → (∀ bytes, c ≠ .unknown bytes) →
    ∃ n params, rest = n :: params ∧ n.toNat = params.length ∧ paramLength code = some params.length) ∧
  (∀ (c : Instr) (bytes : List Byte) (s : State), s.service.target = .busy → writeOf c = some bytes → exec c s = .next s) ∧
  ∀ s : State, s.service.target ≠ .busy →
    let after (r : Option ServiceResult) : State := { s with service := { s.service with
      target := .idle, collection := [], overlong := false, sent := 0, result := r } }
    (∀ request, exec (.serviceRequestAccepted request) s = .next { s with service := { s.service with
      target := .busy, collection := [], overlong := false, sent := 0, inProgress := some request, result := none } }) ∧
    exec (.unknown []) s = .next (after s.service.result) ∧
    (∀ a : Byte, exec (.unknown [a]) s = .next (after (some { status := .badFormat }))) ∧
    ∀ (code count : Byte) (params : List Byte), let bytes := code :: count :: params
      let malformed := 14 < params.length ∨ params.length ≠ count.toNat
      (malformed → exec (.unknown bytes) s = .next (after (some { status := .badFormat }))) ∧
      (¬malformed → paramLength code = none → exec (.unknown bytes) s = .next (after (some { status := .unknown }))) ∧
      (∀ n, ¬malformed → paramLength code = some n → n ≠ count.toNat →
        exec (.unknown bytes) s = .next (after (some { status := .badFormat }))) ∧
      (∀ option, params = [option] → code = 0x31#8 → count = 1#8 → option ≠ 1#8 → option ≠ 2#8 →
        exec (.unknown bytes) s = .next (s.withResult { status := .range })) ∧
      (¬malformed → paramLength code = some count.toNat →
        ¬(code = 0x31#8 ∧ params ≠ [1#8] ∧ params ≠ [2#8]) → exec (.unknown bytes) s = .next s)

/-- FREEZE and THAW at their grants (R127 to R129): READY to FROZEN and FROZEN to READY with FREEZE_CHANGED for both ports, the freeze
remembered or forgotten in INITIALIZING, ALREADY when there is nothing to do. A THAW also makes the tests of R165, R166 and R169,
given by the last clause. The model's choices: FREEZE_CHANGED comes before the notices of the retirement that a THAW resumes (log
30); a command that is not the request granted next changes nothing (log 1). -/
def Obligations.FreezeAndThawMoveTheEngine : Prop :=
  (∀ s : State, let u := s.beginGrant .service
    (s.grantedService = some .freeze →
      (s.engine.state = .ready → exec .freeze s = .next (((u.setEngine { u.engine with state := .frozen }).raiseBoth .freezeChanged
        (some 2#32)).served { status := .ok })) ∧
      (s.engine.state = .initializing → s.engine.rememberedFreeze = false → exec .freeze s =
        .next ((u.setEngine { u.engine with rememberedFreeze := true }).served { status := .ok })) ∧
      (s.engine.state = .frozen ∨ (s.engine.state = .initializing ∧ s.engine.rememberedFreeze = true) →
        exec .freeze s = .next (u.served { status := .already }))) ∧
    (s.grantedService = some .thaw →
      (s.engine.state = .frozen → exec .thaw s = .next ((((u.setEngine { u.engine with state := .ready }).raiseBoth .freezeChanged
        (some 1#32)).settle).served { status := .ok })) ∧
      (s.engine.state = .initializing → s.engine.rememberedFreeze = true → exec .thaw s =
        .next ((u.setEngine { u.engine with rememberedFreeze := false }).served { status := .ok })) ∧
      (s.engine.state = .ready ∨ (s.engine.state = .initializing ∧ s.engine.rememberedFreeze = false) →
        exec .thaw s = .next (u.served { status := .already }))) ∧
    (s.grantedService ≠ some .freeze → exec .freeze s = .next s) ∧
    (s.grantedService ≠ some .thaw → exec .thaw s = .next s)) ∧
  ∀ x : State, RetirementLaw x → x.engine.state = .ready →
    (x.inProgress = none → x.integrity.retireQueue = [] → x.settle = x) ∧
    (∀ b, x.inProgress = some b → 0 < x.integrity.reserve →
      x.settle = x.setBlockState b (if x.integrity.reserve ≤ x.pooled then .moving else .closing)) ∧
    (∀ b, x.inProgress = some b → x.integrity.reserve = 0 → (x.settle.block b).state = .retired) ∧
    (∀ b rest, x.inProgress = none → x.integrity.retireQueue = b :: rest →
      b ∉ x.settle.integrity.retireQueue ∧ (x.settle.block b).state ≠ .inService ∧ ∀ n ∈ x.settle.journal.pool, blockOf n ≠ b)

/-- RETIRE_BLOCK at its grant (R163 to R166, R169): NOT_READY while INITIALIZING, RANGE for no block, ALREADY for a block that is not
IN_SERVICE or is queued, LIMIT at a retirement count of four; else OK, and the block waits in the queue, or enters CLOSING at once
if the engine is READY with no block in progress: its pooled slots withdrawn, the reserve its live entries, and RETIRED or MOVING as
the tests give, with the low-water test if a pooled slot was withdrawn (R45; that none is made else is log 16), then BLOCK_RETIRED. A
command that is not the request granted next changes nothing, the model's choice (log 1). -/
def Obligations.RetireBlockQueuesOrCloses : Prop :=
  (∀ s : State, (∀ b, s.grantedService ≠ some (.retireBlock b)) → exec .retireBlock s = .next s) ∧
  ∀ (b : Byte) (s : State), s.grantedService = some (.retireBlock b) →
    let u := s.beginGrant .service
    let n := b.toNat
    let answers (x : State) (status : ServiceStatus) : Prop := exec .retireBlock s = .next (x.served { status := status })
    let taken := (u.block n).state ≠ .inService ∨ n ∈ u.integrity.retireQueue
    (s.engine.state = .initializing → answers u .notReady) ∧
    (s.engine.state ≠ .initializing → 16 ≤ n → answers u .range) ∧
    (s.engine.state ≠ .initializing → n < 16 → taken → answers u .already) ∧
    (s.engine.state ≠ .initializing → n < 16 → ¬taken → 4 ≤ u.retirementCount → answers u .limit) ∧
    (s.engine.state ≠ .initializing → n < 16 → ¬taken → u.retirementCount < 4 →
      (s.engine.state = .frozen ∨ u.inProgress.isSome = true →
        answers (u.setIntegrity { u.integrity with retireQueue := u.integrity.retireQueue ++ [n] }) .ok) ∧
      (s.engine.state = .ready → u.inProgress = none → u.integrity.retireQueue = [] → ∃ y, answers y .ok ∧
        y.integrity.retireQueue = [] ∧ y.integrity.reserve = u.liveInBlock n ∧
        y.journal = { u.journal with pool := u.journal.pool.filter fun m => blockOf m ≠ n } ∧
        (y.block n).state = (if u.liveInBlock n = 0 then .retired else if u.liveInBlock n ≤ y.pooled then .moving else .closing) ∧
        (y.block n).bucket = (u.block n).bucket ∧ (∀ m, m ≠ n → y.block m = u.block m) ∧
        y.sessions = u.sessions ∧ y.sweeper = u.sweeper ∧ y.arbiter = u.arbiter ∧ y.faults = u.faults ∧ y.service = u.service ∧
        y.engine.state = .ready ∧
        ∃ z : State, z.sessions = u.sessions ∧ y.engine = z.engine ∧
          (y.pooled < u.pooled → LowWater u z y.pooled) ∧
          (y.pooled = u.pooled → z.engine = u.engine ∧ z.notices = u.notices ∧ z.links = u.links) ∧
          (0 < u.liveInBlock n → y.notices = z.notices ∧ y.links = z.links) ∧
          (u.liveInBlock n = 0 → y.notices = (z.raiseBoth .blockRetired (some (wordOf n))).notices ∧
            y.links = (z.raiseBoth .blockRetired (some (wordOf n))).links)))

/-- READ_SLOT at its grant (R183, R203): NOT_READY while INITIALIZING, RANGE for no slot; else a slot read without conversion, to the
state `t`, answered OK with the outcomes of the read and the slot as the read left it, in the report's layout. The model's choices: a
command that is not the request granted next changes nothing (log 1); unnamed bits are 0 (log 21), and a note of one word stands in
the first four of its eight bytes (log 13). -/
def Obligations.ReadSlotReportsTheSlot : Prop :=
  (∀ (w : SlotWear) (s : State), (∀ h, s.grantedService ≠ some (.readSlot h)) → exec (.readSlot w) s = .next s) ∧
  ∀ (h : Half) (w : SlotWear) (s : State), s.grantedService = some (.readSlot h) →
    let u := s.beginGrant .service
    let n := h.toNat
    (s.engine.state = .initializing → exec (.readSlot w) s = .next (u.served { status := .notReady })) ∧
    (s.engine.state ≠ .initializing → 1024 ≤ n → exec (.readSlot w) s = .next (u.served { status := .range })) ∧
    (s.engine.state ≠ .initializing → n < 1024 →
      let o := u.readOutcome n w
      let t := u.readRaw n w
      let head : List (Nat × Nat) :=
        [(1, voteCode o.vote), (1, eccCode o.ecc), (1, (t.condition n).code), (1, (t.block (n / 64)).state.code)]
      let epochOf (x : Option Held) : Nat := (x.map fun y => y.epoch.toNat).getD 0
      (∀ k e, t.keyAt n = some k → t.entryAt n = some e → exec (.readSlot w) s =
        .next (t.served { status := .ok, data := layout (head ++ [(1, k.volume.toNat), (4, k.region.toNat),
          (1, entryStateCode e.state), (1, holdCount e.holdA), (2, epochOf e.holdA), (1, holdCount e.holdB), (2, epochOf e.holdB),
          (1, bitIf e.lostHolder 0 + bitIf e.damaged 1), (8, e.stamp.toNat), (1, e.note.length),
          (4, (e.note[0]?.getD 0).toNat), (4, (e.note[1]?.getD 0).toNat),
          (1, (e.adopter.map fun a => portCode a.port).getD 0xFF), (2, (e.adopter.map fun a => a.epoch.toNat).getD 0)]) })) ∧
      (t.keyAt n = none → exec (.readSlot w) s =
        .next (t.served { status := .ok, data := layout (head ++ [(30, 0), (1, 0xFF), (2, 0)]) })))
end

