-- ==== Sys2Proof/Laws/Check.lean ====
section
/-! SUPPORT. A Boolean check of the laws of a running part, for states written out, with the proof that it decides in the law's
favour only when the law holds. -/

namespace Sys2Proof.Machine

/-- A test of both ports. -/
def bothPorts (f : Port → Bool) : Bool := f .a && f .b

theorem bothPorts_iff (f : Port → Bool) : bothPorts f = true ↔ ∀ p, f p = true := by
  simp only [bothPorts, Bool.and_eq_true]
  exact ⟨fun h p => by cases p; exact h.1; exact h.2, fun h => ⟨h .a, h .b⟩⟩

/-- The laws of ports, lines, settings, engine, notices and slot numbers. -/
def portLawsB (s : State) : Bool :=
  (bothPorts fun p => decide ((s.link p).requests.length ≤ 8 ∧ (s.link p).cache.length ≤ 8 ∧ (s.link p).queued.Nodup ∧
    (s.link p).cached.Nodup ∧ ∀ n ∈ (s.link p).queued, n ∉ (s.link p).cached)) &&
  (bothPorts fun p => decide ((s.link p).outbound.length ≤ 16 ∧
    ((s.link p).state ≠ .up → (s.link p).outbound = [] ∧ (s.link p).sending = none) ∧
    ((s.link p).trainingLimit.isSome = true ↔ (s.link p).state = .training))) &&
  (bothPorts fun p => decide ((s.isOpen p = false → (s.session p).holdings = 0 ∧ (s.session p).adoptions = 0) ∧
    ((s.session p).lapseTimer.isSome = s.isOpen p) ∧
    ((s.session p).drainTimer.isSome = true ↔ (s.session p).state = .draining) ∧
    (s.isOpen p = true → (s.session p).epoch ≠ 0#16) ∧ (s.session p).holdings ≤ 1024 ∧
    (s.engine.state = .initializing → s.isOpen p = false))) &&
  (bothPorts fun p => decide ((s.session p).fenceLine = true ↔ (s.session p).state = .fenced)) &&
  decide (s.faults.alert = alertCondition s.faults s.settings.alertEnable) &&
  decide (s.service.target = .busy ↔ s.service.inProgress.isSome = true) &&
  ([FaultClass.link, .storeCorrected, .storeLost, .session, .capacity].all fun c =>
    decide ((s.faults.get c).first = none → (s.faults.get c).later = 0#5)) &&
  SettingsLawB s && @decide (EngineLaw s) (by unfold EngineLaw; infer_instance) &&
  decide (s.notices.repeatTimer.isSome = s.repeatCondition ∧ s.notices.held = none) &&
  @decide (SlotLaw s) (by unfold SlotLaw; infer_instance)
where
  SettingsLawB (s : State) : Bool :=
    [SettingName.lapsePeriodA, .lapsePeriodB, .drainLimit, .noticeRepeat, .quotaA, .quotaB, .lowWater, .bucketThreshold,
      .leakPeriod, .scrubPace, .fencePeerEnable, .alertEnable].all fun n =>
        decide (n.bounds.1 ≤ s.settings.get n ∧ s.settings.get n ≤ n.bounds.2)

/-- The entry that a live slot's body holds, an ORPHAN of stamp 0 for a body that holds none. -/
def State.bodyAt (s : State) (n : Nat) : EntryBody := ((s.stored n).body.fields).getD damagedBody

/-- The laws of the journal and of retirement. -/
def journalLawsB (s : State) : Bool :=
  decide (s.journal.pool.Nodup) && decide (∀ x ∈ s.journal.index, x.1 ∉ s.journal.pool) &&
  decide ((s.journal.index.map fun x => x.2.key).Nodup) &&
  (s.journal.index.all fun x => decide ((s.stored x.1).body = .entry (s.bodyAt x.1) ∧ x.2.summary = (s.bodyAt x.1).summary)) &&
  decide (s.engine.state = .initializing → s.journal.index = [] ∧ ∀ n ∈ s.journal.pool, n < s.engine.initPos) &&
  (s.journal.index.all fun x =>
    let e := s.bodyAt x.1
    decide ((e.state = .opened → (e.holdA.isSome = true ∨ e.holdB.isSome = true) ∧ e.adopter = none) ∧
      (e.state = .orphan → e.holdA = none ∧ e.holdB = none ∧ e.adopter = none) ∧
      (e.state = .adopted → e.holdA = none ∧ e.holdB = none ∧ e.adopter.isSome = true)) &&
    (bothPorts fun p => match e.hold p with
      | some h => decide (1 ≤ h.count ∧ h.count ≤ 15 ∧ h.epoch ≠ 0#16)
      | none => true) &&
    (match e.adopter with
      | some a => decide (a.epoch ≠ 0#16)
      | none => true) && decide (e.note.length ≤ 2 ∧ (e.stamp = 0#64 → e.damaged = true) ∧
      (e.stamp ≠ 0#64 → e.stamp.toNat < s.journal.stamp.toNat))) &&
  (s.journal.index.all fun x => s.journal.index.all fun y =>
    decide ((s.bodyAt x.1).stamp = (s.bodyAt y.1).stamp → (s.bodyAt x.1).stamp ≠ 0#64 → x.1 = y.1)) &&
  decide (s.journal.orphans.Pairwise fun a b => a.stamp.toNat ≤ b.stamp.toNat) &&
  decide ((s.journal.orphans.map Orphan.key).Nodup) &&
  (s.journal.orphans.all fun o => s.journal.index.any fun x =>
    decide (x.2.key = o.key ∧ (s.bodyAt x.1).state = .orphan ∧ (s.bodyAt x.1).stamp = o.stamp)) &&
  (s.journal.index.all fun x =>
    decide ((s.bodyAt x.1).state = .orphan → (⟨x.2.key, (s.bodyAt x.1).stamp⟩ : Orphan) ∈ s.journal.orphans)) &&
  ((List.range 16).all fun b => decide ((s.block b).bucket ≤ 15)) &&
  ((List.range 16).all fun b => (List.range 16).all fun c =>
    decide ((s.block b).state.inProgress = true → (s.block c).state.inProgress = true → b = c)) &&
  decide (s.integrity.retireQueue.Nodup) &&
  decide (∀ b ∈ s.integrity.retireQueue, b < 16 ∧ (s.block b).state = .inService) &&
  decide (s.retirementCount ≤ 4) && decide (s.inProgress = none → s.integrity.reserve = 0) &&
  decide (s.journal.index.length + s.journal.pool.length + 64 * s.retiredCount ≤ 1024) &&
  decide (∀ n ∈ s.journal.pool, (s.block (blockOf n)).state = .inService) &&
  decide (∀ x ∈ s.journal.index, (s.block (blockOf x.1)).state ≠ .retired) &&
  decide (s.engine.state = .initializing → s.inProgress = none) &&
  (match s.inProgress with
    | none => true
    | some b => decide (s.integrity.reserve = s.liveInBlock b) &&
      decide (s.engine.state = .ready →
        0 < s.integrity.reserve ∧ ((s.block b).state = .moving ↔ s.integrity.reserve ≤ s.pooled)))

theorem block_beyond (s : State) {b : Nat} (h : 16 ≤ b) : s.block b = {} := by
  simp [State.block, Integrity.block, h]

theorem alertCondition_iff (f : Faults) (e : BitVec 5) :
    alertCondition f e = true ↔ ∃ c : FaultClass, e.getLsbD c.bit = true ∧ (f.get c).first.isSome = true := by
  simp only [alertCondition, Bool.or_eq_true, Bool.and_eq_true]
  constructor
  · rintro ((((h | h) | h) | h) | h)
    · exact ⟨.link, h⟩
    · exact ⟨.storeCorrected, h⟩
    · exact ⟨.storeLost, h⟩
    · exact ⟨.session, h⟩
    · exact ⟨.capacity, h⟩
  · rintro ⟨c, h⟩
    cases c
    · exact .inl (.inl (.inl (.inl h)))
    · exact .inl (.inl (.inl (.inr h)))
    · exact .inl (.inl (.inr h))
    · exact .inl (.inr h)
    · exact .inr h

theorem repeatCondition_iff (s : State) :
    s.repeatCondition = true ↔ ∃ p, s.isOpen p = true ∧ (s.notices.flags.get p).any = true := by
  simp only [State.repeatCondition, Bool.or_eq_true, Bool.and_eq_true]
  constructor
  · rintro (h | h)
    · exact ⟨.a, h⟩
    · exact ⟨.b, h⟩
  · rintro ⟨p, h⟩
    cases p
    · exact .inl h
    · exact .inr h

theorem lawful_of_checks {s : State} (h1 : portLawsB s = true) (h2 : journalLawsB s = true) : Lawful s := by
  simp only [portLawsB, portLawsB.SettingsLawB, Bool.and_eq_true, bothPorts_iff, decide_eq_true_eq, List.all_eq_true] at h1
  obtain ⟨⟨⟨⟨⟨⟨⟨⟨⟨⟨hLink, hOut⟩, hSess⟩, hFence⟩, hAlert⟩, hBusy⟩, hLater⟩, hSet⟩, hEng⟩, hNotice⟩, hSlot⟩ := h1
  obtain ⟨hNot, hHeld⟩ := hNotice
  simp only [journalLawsB, Bool.and_eq_true, bothPorts_iff, decide_eq_true_eq, List.all_eq_true, List.any_eq_true,
    List.mem_range] at h2
  obtain ⟨⟨⟨⟨⟨⟨⟨⟨⟨⟨⟨⟨⟨⟨⟨⟨⟨⟨⟨⟨⟨j1, j2⟩, j3⟩, j4⟩, j5⟩, e1⟩, e2⟩, o1⟩, o2⟩, o3⟩, o4⟩, r1⟩, r2⟩, r3⟩, r4⟩, r5⟩, r6⟩, v0⟩, v1⟩, v2⟩, v3⟩, v4⟩ := h2
  refine ⟨hLink, hOut, hSess, ⟨hFence, ?_, hBusy, ?_⟩, ?_, hEng, ⟨?_, hHeld⟩, hSlot, ⟨j1, j2, j3, ?_, j5⟩, ⟨?_, ?_⟩, ⟨o1, o2, ?_⟩,
    ⟨?_, ?_, r3, r4, r5, r6⟩, v0, v1, v2, v3, ?_, ?_⟩
  · rw [hAlert]
    exact alertCondition_iff _ _
  · intro c
    exact hLater c (by cases c <;> simp)
  · intro n
    exact hSet n (by cases n <;> simp)
  · rw [hNot]
    exact repeatCondition_iff s
  · intro x hx
    exact ⟨_, (j4 x hx).1, (j4 x hx).2⟩
  · intro x hx e he
    have hb : s.bodyAt x.1 = e := by simp [State.bodyAt, he, BodyContent.fields]
    obtain ⟨⟨⟨h, hh⟩, ha⟩, hn⟩ := e1 x hx
    rw [hb] at h hh ha hn
    refine ⟨h.1, h.2.1, h.2.2, fun p y hy => ?_, fun y hy => ?_, hn⟩
    · have := hh p
      rw [hy] at this
      simpa using this
    · rw [hy] at ha
      simpa using ha
  · intro x hx y hy e f he hf
    have hb : s.bodyAt x.1 = e := by simp [State.bodyAt, he, BodyContent.fields]
    have hc : s.bodyAt y.1 = f := by simp [State.bodyAt, hf, BodyContent.fields]
    have := e2 x hx y hy
    rw [hb, hc] at this
    exact this
  · intro o
    constructor
    · intro ho
      obtain ⟨x, hx, hk, hst, hsp⟩ := o3 o ho
      exact ⟨x, hx, hk, _, (j4 x hx).1, hst, hsp⟩
    · rintro ⟨x, hx, hk, e, he, hst, hsp⟩
      have hb : s.bodyAt x.1 = e := by simp [State.bodyAt, he, BodyContent.fields]
      have := o4 x hx
      rw [hb] at this
      have := this hst
      rw [hk, hsp] at this
      exact this
  · intro b
    by_cases hb : b < 16
    · exact r1 b hb
    · simp [block_beyond s (Nat.le_of_not_lt hb)]
  · intro b c hb hc
    by_cases h : b < 16
    · by_cases h' : c < 16
      · exact r2 b h c h' hb hc
      · simp [block_beyond s (Nat.le_of_not_lt h'), BlockState.inProgress] at hc
    · simp [block_beyond s (Nat.le_of_not_lt h), BlockState.inProgress] at hb
  · intro b hb
    rw [hb] at v4
    simp only [Bool.and_eq_true, decide_eq_true_eq] at v4
    exact v4.1
  · intro hr b hb
    rw [hb] at v4
    simp only [Bool.and_eq_true, decide_eq_true_eq] at v4
    exact v4.2 hr

/-- No live entry records the epoch of a port's next session. -/
def epochsFreshB (s : State) : Bool :=
  s.journal.index.all fun x =>
    let e := s.bodyAt x.1
    bothPorts fun p => (match e.hold p with
      | some h => decide (h.epoch ≠ nextEpoch (s.session p).epoch)
      | none => true) && decide (e.adopter ≠ some ⟨p, nextEpoch (s.session p).epoch⟩)

theorem epochsFresh_of_check {s : State} (h : epochsFreshB s = true) : EpochsFresh s := by
  simp only [epochsFreshB, List.all_eq_true, bothPorts_iff, Bool.and_eq_true, decide_eq_true_eq] at h
  intro x hx e he p
  have hb : s.bodyAt x.1 = e := by simp [State.bodyAt, he, BodyContent.fields]
  obtain ⟨h1, h2⟩ := h x hx p
  rw [hb] at h1 h2
  refine ⟨fun y hy => ?_, h2⟩
  rw [hy] at h1
  simpa using h1

end Sys2Proof.Machine
end

