-- ==== Sys2Proof/Laws/Crc.lean ====
section
/-! SUPPORT. The CRC of R197 taken bit by bit: what one byte does to the remainder register. -/

namespace Sys2Proof.Machine

theorem crcShift_zero : crcShift 0#32 = 0#32 := by decide

/-- The shift of the remainder register is linear. -/
theorem crcShift_xor (a b : Word) : crcShift (a ^^^ b) = crcShift a ^^^ crcShift b := by
  unfold crcShift
  rw [BitVec.msb_xor, BitVec.shiftLeft_xor_distrib]
  cases a.msb <;> cases b.msb <;> simp only [bne_self_eq_false, Bool.false_bne, Bool.true_bne, Bool.false_eq_true,
    if_true, if_false, Bool.not_false]
  · ac_rfl
  · ac_rfl
  · rw [show a <<< 1 ^^^ 0x04C11DB7#32 ^^^ (b <<< 1 ^^^ 0x04C11DB7#32) =
      a <<< 1 ^^^ b <<< 1 ^^^ (0x04C11DB7#32 ^^^ 0x04C11DB7#32) by ac_rfl, BitVec.xor_self, BitVec.xor_zero]

theorem crcShifts_zero (n : Nat) : crcShifts n 0#32 = 0#32 := by
  induction n with
  | zero => rfl
  | succ n ih => rw [crcShifts, crcShift_zero, ih]

theorem crcShifts_xor (n : Nat) (a b : Word) : crcShifts n (a ^^^ b) = crcShifts n a ^^^ crcShifts n b := by
  induction n generalizing a b with
  | zero => rfl
  | succ n ih => rw [crcShifts, crcShift_xor, ih, crcShifts, crcShifts]

/-- One bit is a shift, and the polynomial if the bit is set. -/
theorem crcBit_eq (r : Word) (bit : Bool) : crcBit r bit = crcShift r ^^^ (if bit then 0x04C11DB7#32 else 0#32) := by
  unfold crcBit crcShift
  cases r.msb <;> cases bit <;> simp [BitVec.xor_assoc]

/-- A run of bits from a register is the shifts of the register beside the run of the same bits from 0. -/
theorem crcBits_linear (bits : List Bool) (r : Word) :
    bits.foldl crcBit r = crcShifts bits.length r ^^^ bits.foldl crcBit 0#32 := by
  induction bits generalizing r with
  | nil => simp [crcShifts]
  | cons b bits ih =>
    rw [List.foldl_cons, List.foldl_cons, ih, ih (crcBit 0#32 b), crcBit_eq, crcBit_eq, crcShifts_xor, crcShifts_xor,
      crcShift_zero, crcShifts_zero, BitVec.zero_xor, List.length_cons, crcShifts, BitVec.xor_assoc]

/-- The bits of a byte, the most significant first. -/
theorem crcBits_byte : ∀ b : Byte, crcShifts 8 (b.setWidth 32 <<< 24) =
    [b.getLsbD 7, b.getLsbD 6, b.getLsbD 5, b.getLsbD 4, b.getLsbD 3, b.getLsbD 2, b.getLsbD 1, b.getLsbD 0].foldl crcBit 0#32 := by
  decide

/-- One byte taken into the register is its eight bits taken in, the most significant first (R197). -/
theorem crcByte_eq_bits (r : Word) (b : Byte) : crcByte r b =
    [b.getLsbD 7, b.getLsbD 6, b.getLsbD 5, b.getLsbD 4, b.getLsbD 3, b.getLsbD 2, b.getLsbD 1, b.getLsbD 0].foldl crcBit r := by
  rw [crcByte, crcShifts_xor, crcBits_byte, crcBits_linear _ r]
  rfl

end Sys2Proof.Machine
end

