-- ==== Sys2Proof/Laws/State.lean ====
section
/-! SUPPORT. One lemma for each field after each update of the state, and the readers of a port's value. -/

namespace Sys2Proof

@[simp] theorem PerPort.get_set_same {α : Type} (x : PerPort α) (p : Port) (v : α) : (x.set p v).get p = v := by
  cases p <;> rfl

theorem PerPort.get_set {α : Type} (x : PerPort α) (p q : Port) (v : α) :
    (x.set p v).get q = if q = p then v else x.get q := by
  cases p <;> cases q <;> rfl

@[simp] theorem PerPort.get_set_other {α : Type} (x : PerPort α) (p : Port) (v : α) :
    (x.set p v).get p.other = x.get p.other := by
  cases p <;> rfl

@[simp] theorem PerPort.get_other_set {α : Type} (x : PerPort α) (p : Port) (v : α) :
    (x.set p.other v).get p = x.get p := by
  cases p <;> rfl

@[simp] theorem PerPort.set_set {α : Type} (x : PerPort α) (p : Port) (v w : α) : (x.set p v).set p w = x.set p w := by
  cases p <;> rfl

@[simp] theorem PerPort.set_get {α : Type} (x : PerPort α) (p : Port) : x.set p (x.get p) = x := by
  cases p <;> rfl

theorem PerPort.ext_get {α : Type} {x y : PerPort α} (h : ∀ q, x.get q = y.get q) : x = y := by
  cases x; cases y
  have ha := h .a
  have hb := h .b
  simp only [PerPort.get] at ha hb
  subst ha; subst hb; rfl

@[simp] theorem Port.other_other (p : Port) : p.other.other = p := by cases p <;> rfl
@[simp] theorem Port.other_ne (p : Port) : p.other ≠ p := by cases p <;> decide
@[simp] theorem Port.ne_other (p : Port) : p ≠ p.other := by cases p <;> decide
theorem Port.eq_or_other (p q : Port) : q = p ∨ q = p.other := by cases p <;> cases q <;> simp [Port.other]

namespace Machine

/-! Readers, as fields of the state -/

@[simp] theorem link_eq (s : State) (p : Port) : s.link p = s.links.get p := rfl
@[simp] theorem session_eq (s : State) (p : Port) : s.session p = s.sessions.get p := rfl
@[simp] theorem settings_eq (s : State) : s.settings = s.service.settings := rfl
@[simp] theorem block_eq (s : State) (b : Nat) : s.block b = s.integrity.block b := rfl
@[simp] theorem assoc_eq (s : State) (n : Nat) : s.assoc n = SlotMap.find n s.journal.index := rfl
@[simp] theorem keyAt_eq (s : State) (n : Nat) : s.keyAt n = (SlotMap.find n s.journal.index).map Association.key := rfl
@[simp] theorem lookup_eq (s : State) (k : RegionKey) : s.lookup k = findKey k s.journal.index := rfl
@[simp] theorem stored_eq (s : State) (n : Nat) :
    s.stored n = (SlotMap.find n s.journal.store).getD (Config.unwrittenSlot s.freeCount n) := rfl
@[simp] theorem pooled_eq (s : State) : s.pooled = s.journal.pool.length := rfl
@[simp] theorem orphanCount_eq (s : State) : s.orphanCount = s.journal.orphans.length := rfl
@[simp] theorem liveCount_eq (s : State) : s.liveCount = s.journal.index.length := rfl
@[simp] theorem isOpen_eq (s : State) (p : Port) : s.isOpen p = (s.sessions.get p).state.isOpen := rfl


/-! setArbiter -/

@[simp] theorem setArbiter_links (s : State) (x : Arbiter) : (s.setArbiter x).links = s.links := rfl
@[simp] theorem setArbiter_sessions (s : State) (x : Arbiter) : (s.setArbiter x).sessions = s.sessions := rfl
@[simp] theorem setArbiter_arbiter (s : State) (x : Arbiter) : (s.setArbiter x).arbiter = x := rfl
@[simp] theorem setArbiter_journal (s : State) (x : Arbiter) : (s.setArbiter x).journal = s.journal := rfl
@[simp] theorem setArbiter_engine (s : State) (x : Arbiter) : (s.setArbiter x).engine = s.engine := rfl
@[simp] theorem setArbiter_sweeper (s : State) (x : Arbiter) : (s.setArbiter x).sweeper = s.sweeper := rfl
@[simp] theorem setArbiter_integrity (s : State) (x : Arbiter) : (s.setArbiter x).integrity = s.integrity := rfl
@[simp] theorem setArbiter_notices (s : State) (x : Arbiter) : (s.setArbiter x).notices = s.notices := rfl
@[simp] theorem setArbiter_service (s : State) (x : Arbiter) : (s.setArbiter x).service = s.service := rfl
@[simp] theorem setArbiter_faults (s : State) (x : Arbiter) : (s.setArbiter x).faults = s.faults := rfl
@[simp] theorem setArbiter_resetCtl (s : State) (x : Arbiter) : (s.setArbiter x).resetCtl = s.resetCtl := rfl
@[simp] theorem setArbiter_freeCount (s : State) (x : Arbiter) : (s.setArbiter x).freeCount = s.freeCount := rfl
@[simp] theorem setArbiter_pending (s : State) (x : Arbiter) : (s.setArbiter x).pending = s.pending := rfl

/-! setJournal -/

@[simp] theorem setJournal_links (s : State) (x : Journal) : (s.setJournal x).links = s.links := rfl
@[simp] theorem setJournal_sessions (s : State) (x : Journal) : (s.setJournal x).sessions = s.sessions := rfl
@[simp] theorem setJournal_arbiter (s : State) (x : Journal) : (s.setJournal x).arbiter = s.arbiter := rfl
@[simp] theorem setJournal_journal (s : State) (x : Journal) : (s.setJournal x).journal = x := rfl
@[simp] theorem setJournal_engine (s : State) (x : Journal) : (s.setJournal x).engine = s.engine := rfl
@[simp] theorem setJournal_sweeper (s : State) (x : Journal) : (s.setJournal x).sweeper = s.sweeper := rfl
@[simp] theorem setJournal_integrity (s : State) (x : Journal) : (s.setJournal x).integrity = s.integrity := rfl
@[simp] theorem setJournal_notices (s : State) (x : Journal) : (s.setJournal x).notices = s.notices := rfl
@[simp] theorem setJournal_service (s : State) (x : Journal) : (s.setJournal x).service = s.service := rfl
@[simp] theorem setJournal_faults (s : State) (x : Journal) : (s.setJournal x).faults = s.faults := rfl
@[simp] theorem setJournal_resetCtl (s : State) (x : Journal) : (s.setJournal x).resetCtl = s.resetCtl := rfl
@[simp] theorem setJournal_freeCount (s : State) (x : Journal) : (s.setJournal x).freeCount = s.freeCount := rfl
@[simp] theorem setJournal_pending (s : State) (x : Journal) : (s.setJournal x).pending = s.pending := rfl

/-! setEngine -/

@[simp] theorem setEngine_links (s : State) (x : Engine) : (s.setEngine x).links = s.links := rfl
@[simp] theorem setEngine_sessions (s : State) (x : Engine) : (s.setEngine x).sessions = s.sessions := rfl
@[simp] theorem setEngine_arbiter (s : State) (x : Engine) : (s.setEngine x).arbiter = s.arbiter := rfl
@[simp] theorem setEngine_journal (s : State) (x : Engine) : (s.setEngine x).journal = s.journal := rfl
@[simp] theorem setEngine_engine (s : State) (x : Engine) : (s.setEngine x).engine = x := rfl
@[simp] theorem setEngine_sweeper (s : State) (x : Engine) : (s.setEngine x).sweeper = s.sweeper := rfl
@[simp] theorem setEngine_integrity (s : State) (x : Engine) : (s.setEngine x).integrity = s.integrity := rfl
@[simp] theorem setEngine_notices (s : State) (x : Engine) : (s.setEngine x).notices = s.notices := rfl
@[simp] theorem setEngine_service (s : State) (x : Engine) : (s.setEngine x).service = s.service := rfl
@[simp] theorem setEngine_faults (s : State) (x : Engine) : (s.setEngine x).faults = s.faults := rfl
@[simp] theorem setEngine_resetCtl (s : State) (x : Engine) : (s.setEngine x).resetCtl = s.resetCtl := rfl
@[simp] theorem setEngine_freeCount (s : State) (x : Engine) : (s.setEngine x).freeCount = s.freeCount := rfl
@[simp] theorem setEngine_pending (s : State) (x : Engine) : (s.setEngine x).pending = s.pending := rfl

/-! setSweeper -/

@[simp] theorem setSweeper_links (s : State) (x : Sweeper) : (s.setSweeper x).links = s.links := rfl
@[simp] theorem setSweeper_sessions (s : State) (x : Sweeper) : (s.setSweeper x).sessions = s.sessions := rfl
@[simp] theorem setSweeper_arbiter (s : State) (x : Sweeper) : (s.setSweeper x).arbiter = s.arbiter := rfl
@[simp] theorem setSweeper_journal (s : State) (x : Sweeper) : (s.setSweeper x).journal = s.journal := rfl
@[simp] theorem setSweeper_engine (s : State) (x : Sweeper) : (s.setSweeper x).engine = s.engine := rfl
@[simp] theorem setSweeper_sweeper (s : State) (x : Sweeper) : (s.setSweeper x).sweeper = x := rfl
@[simp] theorem setSweeper_integrity (s : State) (x : Sweeper) : (s.setSweeper x).integrity = s.integrity := rfl
@[simp] theorem setSweeper_notices (s : State) (x : Sweeper) : (s.setSweeper x).notices = s.notices := rfl
@[simp] theorem setSweeper_service (s : State) (x : Sweeper) : (s.setSweeper x).service = s.service := rfl
@[simp] theorem setSweeper_faults (s : State) (x : Sweeper) : (s.setSweeper x).faults = s.faults := rfl
@[simp] theorem setSweeper_resetCtl (s : State) (x : Sweeper) : (s.setSweeper x).resetCtl = s.resetCtl := rfl
@[simp] theorem setSweeper_freeCount (s : State) (x : Sweeper) : (s.setSweeper x).freeCount = s.freeCount := rfl
@[simp] theorem setSweeper_pending (s : State) (x : Sweeper) : (s.setSweeper x).pending = s.pending := rfl

/-! setIntegrity -/

@[simp] theorem setIntegrity_links (s : State) (x : Integrity) : (s.setIntegrity x).links = s.links := rfl
@[simp] theorem setIntegrity_sessions (s : State) (x : Integrity) : (s.setIntegrity x).sessions = s.sessions := rfl
@[simp] theorem setIntegrity_arbiter (s : State) (x : Integrity) : (s.setIntegrity x).arbiter = s.arbiter := rfl
@[simp] theorem setIntegrity_journal (s : State) (x : Integrity) : (s.setIntegrity x).journal = s.journal := rfl
@[simp] theorem setIntegrity_engine (s : State) (x : Integrity) : (s.setIntegrity x).engine = s.engine := rfl
@[simp] theorem setIntegrity_sweeper (s : State) (x : Integrity) : (s.setIntegrity x).sweeper = s.sweeper := rfl
@[simp] theorem setIntegrity_integrity (s : State) (x : Integrity) : (s.setIntegrity x).integrity = x := rfl
@[simp] theorem setIntegrity_notices (s : State) (x : Integrity) : (s.setIntegrity x).notices = s.notices := rfl
@[simp] theorem setIntegrity_service (s : State) (x : Integrity) : (s.setIntegrity x).service = s.service := rfl
@[simp] theorem setIntegrity_faults (s : State) (x : Integrity) : (s.setIntegrity x).faults = s.faults := rfl
@[simp] theorem setIntegrity_resetCtl (s : State) (x : Integrity) : (s.setIntegrity x).resetCtl = s.resetCtl := rfl
@[simp] theorem setIntegrity_freeCount (s : State) (x : Integrity) : (s.setIntegrity x).freeCount = s.freeCount := rfl
@[simp] theorem setIntegrity_pending (s : State) (x : Integrity) : (s.setIntegrity x).pending = s.pending := rfl

/-! setNotices -/

@[simp] theorem setNotices_links (s : State) (x : Notices) : (s.setNotices x).links = s.links := rfl
@[simp] theorem setNotices_sessions (s : State) (x : Notices) : (s.setNotices x).sessions = s.sessions := rfl
@[simp] theorem setNotices_arbiter (s : State) (x : Notices) : (s.setNotices x).arbiter = s.arbiter := rfl
@[simp] theorem setNotices_journal (s : State) (x : Notices) : (s.setNotices x).journal = s.journal := rfl
@[simp] theorem setNotices_engine (s : State) (x : Notices) : (s.setNotices x).engine = s.engine := rfl
@[simp] theorem setNotices_sweeper (s : State) (x : Notices) : (s.setNotices x).sweeper = s.sweeper := rfl
@[simp] theorem setNotices_integrity (s : State) (x : Notices) : (s.setNotices x).integrity = s.integrity := rfl
@[simp] theorem setNotices_notices (s : State) (x : Notices) : (s.setNotices x).notices = x := rfl
@[simp] theorem setNotices_service (s : State) (x : Notices) : (s.setNotices x).service = s.service := rfl
@[simp] theorem setNotices_faults (s : State) (x : Notices) : (s.setNotices x).faults = s.faults := rfl
@[simp] theorem setNotices_resetCtl (s : State) (x : Notices) : (s.setNotices x).resetCtl = s.resetCtl := rfl
@[simp] theorem setNotices_freeCount (s : State) (x : Notices) : (s.setNotices x).freeCount = s.freeCount := rfl
@[simp] theorem setNotices_pending (s : State) (x : Notices) : (s.setNotices x).pending = s.pending := rfl

/-! setService -/

@[simp] theorem setService_links (s : State) (x : ServicePort) : (s.setService x).links = s.links := rfl
@[simp] theorem setService_sessions (s : State) (x : ServicePort) : (s.setService x).sessions = s.sessions := rfl
@[simp] theorem setService_arbiter (s : State) (x : ServicePort) : (s.setService x).arbiter = s.arbiter := rfl
@[simp] theorem setService_journal (s : State) (x : ServicePort) : (s.setService x).journal = s.journal := rfl
@[simp] theorem setService_engine (s : State) (x : ServicePort) : (s.setService x).engine = s.engine := rfl
@[simp] theorem setService_sweeper (s : State) (x : ServicePort) : (s.setService x).sweeper = s.sweeper := rfl
@[simp] theorem setService_integrity (s : State) (x : ServicePort) : (s.setService x).integrity = s.integrity := rfl
@[simp] theorem setService_notices (s : State) (x : ServicePort) : (s.setService x).notices = s.notices := rfl
@[simp] theorem setService_service (s : State) (x : ServicePort) : (s.setService x).service = x := rfl
@[simp] theorem setService_faults (s : State) (x : ServicePort) : (s.setService x).faults = s.faults := rfl
@[simp] theorem setService_resetCtl (s : State) (x : ServicePort) : (s.setService x).resetCtl = s.resetCtl := rfl
@[simp] theorem setService_freeCount (s : State) (x : ServicePort) : (s.setService x).freeCount = s.freeCount := rfl
@[simp] theorem setService_pending (s : State) (x : ServicePort) : (s.setService x).pending = s.pending := rfl

/-! setFaults -/

@[simp] theorem setFaults_links (s : State) (x : Faults) : (s.setFaults x).links = s.links := rfl
@[simp] theorem setFaults_sessions (s : State) (x : Faults) : (s.setFaults x).sessions = s.sessions := rfl
@[simp] theorem setFaults_arbiter (s : State) (x : Faults) : (s.setFaults x).arbiter = s.arbiter := rfl
@[simp] theorem setFaults_journal (s : State) (x : Faults) : (s.setFaults x).journal = s.journal := rfl
@[simp] theorem setFaults_engine (s : State) (x : Faults) : (s.setFaults x).engine = s.engine := rfl
@[simp] theorem setFaults_sweeper (s : State) (x : Faults) : (s.setFaults x).sweeper = s.sweeper := rfl
@[simp] theorem setFaults_integrity (s : State) (x : Faults) : (s.setFaults x).integrity = s.integrity := rfl
@[simp] theorem setFaults_notices (s : State) (x : Faults) : (s.setFaults x).notices = s.notices := rfl
@[simp] theorem setFaults_service (s : State) (x : Faults) : (s.setFaults x).service = s.service := rfl
@[simp] theorem setFaults_faults (s : State) (x : Faults) : (s.setFaults x).faults = x := rfl
@[simp] theorem setFaults_resetCtl (s : State) (x : Faults) : (s.setFaults x).resetCtl = s.resetCtl := rfl
@[simp] theorem setFaults_freeCount (s : State) (x : Faults) : (s.setFaults x).freeCount = s.freeCount := rfl
@[simp] theorem setFaults_pending (s : State) (x : Faults) : (s.setFaults x).pending = s.pending := rfl

/-! setResetCtl -/

@[simp] theorem setResetCtl_links (s : State) (x : ResetControl) : (s.setResetCtl x).links = s.links := rfl
@[simp] theorem setResetCtl_sessions (s : State) (x : ResetControl) : (s.setResetCtl x).sessions = s.sessions := rfl
@[simp] theorem setResetCtl_arbiter (s : State) (x : ResetControl) : (s.setResetCtl x).arbiter = s.arbiter := rfl
@[simp] theorem setResetCtl_journal (s : State) (x : ResetControl) : (s.setResetCtl x).journal = s.journal := rfl
@[simp] theorem setResetCtl_engine (s : State) (x : ResetControl) : (s.setResetCtl x).engine = s.engine := rfl
@[simp] theorem setResetCtl_sweeper (s : State) (x : ResetControl) : (s.setResetCtl x).sweeper = s.sweeper := rfl
@[simp] theorem setResetCtl_integrity (s : State) (x : ResetControl) : (s.setResetCtl x).integrity = s.integrity := rfl
@[simp] theorem setResetCtl_notices (s : State) (x : ResetControl) : (s.setResetCtl x).notices = s.notices := rfl
@[simp] theorem setResetCtl_service (s : State) (x : ResetControl) : (s.setResetCtl x).service = s.service := rfl
@[simp] theorem setResetCtl_faults (s : State) (x : ResetControl) : (s.setResetCtl x).faults = s.faults := rfl
@[simp] theorem setResetCtl_resetCtl (s : State) (x : ResetControl) : (s.setResetCtl x).resetCtl = x := rfl
@[simp] theorem setResetCtl_freeCount (s : State) (x : ResetControl) : (s.setResetCtl x).freeCount = s.freeCount := rfl
@[simp] theorem setResetCtl_pending (s : State) (x : ResetControl) : (s.setResetCtl x).pending = s.pending := rfl

/-! setLink -/

@[simp] theorem setLink_links (s : State) (p : Port) (x : Link) : (s.setLink p x).links = s.links.set p x := rfl
@[simp] theorem setLink_sessions (s : State) (p : Port) (x : Link) : (s.setLink p x).sessions = s.sessions := rfl
@[simp] theorem setLink_arbiter (s : State) (p : Port) (x : Link) : (s.setLink p x).arbiter = s.arbiter := rfl
@[simp] theorem setLink_journal (s : State) (p : Port) (x : Link) : (s.setLink p x).journal = s.journal := rfl
@[simp] theorem setLink_engine (s : State) (p : Port) (x : Link) : (s.setLink p x).engine = s.engine := rfl
@[simp] theorem setLink_sweeper (s : State) (p : Port) (x : Link) : (s.setLink p x).sweeper = s.sweeper := rfl
@[simp] theorem setLink_integrity (s : State) (p : Port) (x : Link) : (s.setLink p x).integrity = s.integrity := rfl
@[simp] theorem setLink_notices (s : State) (p : Port) (x : Link) : (s.setLink p x).notices = s.notices := rfl
@[simp] theorem setLink_service (s : State) (p : Port) (x : Link) : (s.setLink p x).service = s.service := rfl
@[simp] theorem setLink_faults (s : State) (p : Port) (x : Link) : (s.setLink p x).faults = s.faults := rfl
@[simp] theorem setLink_resetCtl (s : State) (p : Port) (x : Link) : (s.setLink p x).resetCtl = s.resetCtl := rfl
@[simp] theorem setLink_freeCount (s : State) (p : Port) (x : Link) : (s.setLink p x).freeCount = s.freeCount := rfl
@[simp] theorem setLink_pending (s : State) (p : Port) (x : Link) : (s.setLink p x).pending = s.pending := rfl

/-! setSession -/

@[simp] theorem setSession_links (s : State) (p : Port) (x : Session) : (s.setSession p x).links = s.links := rfl
@[simp] theorem setSession_sessions (s : State) (p : Port) (x : Session) : (s.setSession p x).sessions = s.sessions.set p x := rfl
@[simp] theorem setSession_arbiter (s : State) (p : Port) (x : Session) : (s.setSession p x).arbiter = s.arbiter := rfl
@[simp] theorem setSession_journal (s : State) (p : Port) (x : Session) : (s.setSession p x).journal = s.journal := rfl
@[simp] theorem setSession_engine (s : State) (p : Port) (x : Session) : (s.setSession p x).engine = s.engine := rfl
@[simp] theorem setSession_sweeper (s : State) (p : Port) (x : Session) : (s.setSession p x).sweeper = s.sweeper := rfl
@[simp] theorem setSession_integrity (s : State) (p : Port) (x : Session) : (s.setSession p x).integrity = s.integrity := rfl
@[simp] theorem setSession_notices (s : State) (p : Port) (x : Session) : (s.setSession p x).notices = s.notices := rfl
@[simp] theorem setSession_service (s : State) (p : Port) (x : Session) : (s.setSession p x).service = s.service := rfl
@[simp] theorem setSession_faults (s : State) (p : Port) (x : Session) : (s.setSession p x).faults = s.faults := rfl
@[simp] theorem setSession_resetCtl (s : State) (p : Port) (x : Session) : (s.setSession p x).resetCtl = s.resetCtl := rfl
@[simp] theorem setSession_freeCount (s : State) (p : Port) (x : Session) : (s.setSession p x).freeCount = s.freeCount := rfl
@[simp] theorem setSession_pending (s : State) (p : Port) (x : Session) : (s.setSession p x).pending = s.pending := rfl

/-! Block records -/

@[simp] theorem setBlock_retireQueue (i : Integrity) (b : Nat) (x : Block) :
    (i.setBlock b x).retireQueue = i.retireQueue := rfl
@[simp] theorem setBlock_reserve (i : Integrity) (b : Nat) (x : Block) : (i.setBlock b x).reserve = i.reserve := rfl
@[simp] theorem setBlock_leakTimer (i : Integrity) (b : Nat) (x : Block) : (i.setBlock b x).leakTimer = i.leakTimer := rfl
@[simp] theorem setBlock_scrubPosition (i : Integrity) (b : Nat) (x : Block) :
    (i.setBlock b x).scrubPosition = i.scrubPosition := rfl

/-- A block's record after a record is set. -/
theorem block_setBlock (i : Integrity) (b c : Nat) (x : Block) :
    (i.setBlock b x).block c = if c = b ∧ b < 16 then x else i.block c := by
  unfold Integrity.block Integrity.setBlock
  by_cases hc : c < 16
  · by_cases hbc : c = b
    · subst hbc; simp [hc]
    · have : b ≠ c := fun h => hbc h.symm
      simp [hbc, this]
  · have h1 : ¬(c = b ∧ b < 16) := fun h => hc (h.1 ▸ h.2)
    simp [h1, Vector.getElem?_eq_none (Nat.le_of_not_lt hc)]

/-! Power-on values -/

@[simp] theorem poweredOn_pending (pins : BitVec 2) (n : Nat) (q : List Instr) : (State.poweredOn pins n q).pending = q := rfl
@[simp] theorem poweredOn_freeCount (pins : BitVec 2) (n : Nat) (q : List Instr) : (State.poweredOn pins n q).freeCount = n := rfl

end Machine

end Sys2Proof
end

