-- ==== Sys2Proof/Laws/Frames.lean ====
section
/-! SUPPORT. What each shared operation leaves as it was: one lemma for each operation, cited in place of unfolding it. -/

namespace Sys2Proof.Machine

/-! Outbound frames and notices -/

@[simp] theorem enqueue_frame (s : State) (p : Port) (f : OutFrame) :
    (s.enqueue p f).sessions = s.sessions ∧ (s.enqueue p f).arbiter = s.arbiter ∧
    (s.enqueue p f).journal = s.journal ∧ (s.enqueue p f).engine = s.engine ∧ (s.enqueue p f).sweeper = s.sweeper ∧
    (s.enqueue p f).integrity = s.integrity ∧ (s.enqueue p f).notices = s.notices ∧
    (s.enqueue p f).service = s.service ∧ (s.enqueue p f).faults = s.faults ∧ (s.enqueue p f).resetCtl = s.resetCtl ∧
    (s.enqueue p f).freeCount = s.freeCount ∧ (s.enqueue p f).pending = s.pending := by
  unfold State.enqueue
  repeat' split
  all_goals simp

@[simp] theorem enqueue_ports (s : State) (p : Port) (f : OutFrame) (q : Port) :
    ((s.enqueue p f).links.get q).state = (s.links.get q).state ∧
    ((s.enqueue p f).links.get q).trainingLimit = (s.links.get q).trainingLimit ∧
    ((s.enqueue p f).links.get q).requests = (s.links.get q).requests ∧
    ((s.enqueue p f).links.get q).cache = (s.links.get q).cache ∧
    ((s.enqueue p f).links.get q).sending = (s.links.get q).sending := by
  unfold State.enqueue
  split
  · cases p <;> cases q <;> simp [PerPort.get_set]
  · simp

@[simp] theorem sendNotice_frame (s : State) (p : Port) (kind : NoticeKind) (w : Option Word) :
    (s.sendNotice p kind w).sessions = s.sessions ∧ (s.sendNotice p kind w).arbiter = s.arbiter ∧
    (s.sendNotice p kind w).journal = s.journal ∧ (s.sendNotice p kind w).engine = s.engine ∧
    (s.sendNotice p kind w).sweeper = s.sweeper ∧ (s.sendNotice p kind w).integrity = s.integrity ∧
    (s.sendNotice p kind w).notices.flags = s.notices.flags ∧
    (s.sendNotice p kind w).notices.repeatTimer = s.notices.repeatTimer ∧
    (s.sendNotice p kind w).notices.held = s.notices.held ∧ (s.sendNotice p kind w).service = s.service ∧
    (s.sendNotice p kind w).faults = s.faults ∧ (s.sendNotice p kind w).resetCtl = s.resetCtl ∧
    (s.sendNotice p kind w).freeCount = s.freeCount ∧ (s.sendNotice p kind w).pending = s.pending := by
  unfold State.sendNotice
  repeat' split
  all_goals simp

@[simp] theorem sendNotice_ports (s : State) (p : Port) (kind : NoticeKind) (w : Option Word) (q : Port) :
    ((s.sendNotice p kind w).links.get q).state = (s.links.get q).state ∧
    ((s.sendNotice p kind w).links.get q).trainingLimit = (s.links.get q).trainingLimit ∧
    ((s.sendNotice p kind w).links.get q).requests = (s.links.get q).requests ∧
    ((s.sendNotice p kind w).links.get q).cache = (s.links.get q).cache ∧
    ((s.sendNotice p kind w).links.get q).sending = (s.links.get q).sending := by
  unfold State.sendNotice
  repeat' split
  all_goals simp

@[simp] theorem setFlag_frame (s : State) (p : Port) (kind : NoticeKind) (v : Option (Option Word)) :
    (s.setFlag p kind v).links = s.links ∧ (s.setFlag p kind v).sessions = s.sessions ∧
    (s.setFlag p kind v).arbiter = s.arbiter ∧ (s.setFlag p kind v).journal = s.journal ∧
    (s.setFlag p kind v).engine = s.engine ∧ (s.setFlag p kind v).sweeper = s.sweeper ∧
    (s.setFlag p kind v).integrity = s.integrity ∧ (s.setFlag p kind v).notices.serials = s.notices.serials ∧
    (s.setFlag p kind v).notices.repeatTimer = s.notices.repeatTimer ∧
    (s.setFlag p kind v).notices.held = s.notices.held ∧ (s.setFlag p kind v).service = s.service ∧
    (s.setFlag p kind v).faults = s.faults ∧ (s.setFlag p kind v).resetCtl = s.resetCtl ∧
    (s.setFlag p kind v).freeCount = s.freeCount ∧ (s.setFlag p kind v).pending = s.pending := by
  unfold State.setFlag
  simp

@[simp] theorem takeRaise_frame (s : State) (r : Raise) :
    (s.takeRaise r).sessions = s.sessions ∧ (s.takeRaise r).arbiter = s.arbiter ∧
    (s.takeRaise r).journal = s.journal ∧ (s.takeRaise r).engine = s.engine ∧ (s.takeRaise r).sweeper = s.sweeper ∧
    (s.takeRaise r).integrity = s.integrity ∧ (s.takeRaise r).notices.repeatTimer = s.notices.repeatTimer ∧
    (s.takeRaise r).notices.held = s.notices.held ∧ (s.takeRaise r).service = s.service ∧
    (s.takeRaise r).faults = s.faults ∧ (s.takeRaise r).resetCtl = s.resetCtl ∧
    (s.takeRaise r).freeCount = s.freeCount ∧ (s.takeRaise r).pending = s.pending := by
  unfold State.takeRaise
  repeat' split
  all_goals simp

@[simp] theorem takeRaise_ports (s : State) (r : Raise) (q : Port) :
    ((s.takeRaise r).links.get q).state = (s.links.get q).state ∧
    ((s.takeRaise r).links.get q).trainingLimit = (s.links.get q).trainingLimit ∧
    ((s.takeRaise r).links.get q).requests = (s.links.get q).requests ∧
    ((s.takeRaise r).links.get q).cache = (s.links.get q).cache ∧
    ((s.takeRaise r).links.get q).sending = (s.links.get q).sending := by
  unfold State.takeRaise
  repeat' split
  all_goals simp

@[simp] theorem raise_frame (s : State) (p : Port) (kind : NoticeKind) (w : Option Word) :
    (s.raise p kind w).sessions = s.sessions ∧ (s.raise p kind w).arbiter = s.arbiter ∧
    (s.raise p kind w).journal = s.journal ∧ (s.raise p kind w).engine = s.engine ∧
    (s.raise p kind w).sweeper = s.sweeper ∧ (s.raise p kind w).integrity = s.integrity ∧
    (s.raise p kind w).notices.repeatTimer = s.notices.repeatTimer ∧ (s.raise p kind w).service = s.service ∧
    (s.raise p kind w).faults = s.faults ∧ (s.raise p kind w).resetCtl = s.resetCtl ∧
    (s.raise p kind w).freeCount = s.freeCount ∧ (s.raise p kind w).pending = s.pending := by
  unfold State.raise
  repeat' split
  all_goals simp

@[simp] theorem raise_ports (s : State) (p : Port) (kind : NoticeKind) (w : Option Word) (q : Port) :
    ((s.raise p kind w).links.get q).state = (s.links.get q).state ∧
    ((s.raise p kind w).links.get q).trainingLimit = (s.links.get q).trainingLimit ∧
    ((s.raise p kind w).links.get q).requests = (s.links.get q).requests ∧
    ((s.raise p kind w).links.get q).cache = (s.links.get q).cache ∧
    ((s.raise p kind w).links.get q).sending = (s.links.get q).sending := by
  unfold State.raise
  repeat' split
  all_goals simp

@[simp] theorem raiseBoth_frame (s : State) (kind : NoticeKind) (w : Option Word) :
    (s.raiseBoth kind w).sessions = s.sessions ∧ (s.raiseBoth kind w).arbiter = s.arbiter ∧
    (s.raiseBoth kind w).journal = s.journal ∧ (s.raiseBoth kind w).engine = s.engine ∧
    (s.raiseBoth kind w).sweeper = s.sweeper ∧ (s.raiseBoth kind w).integrity = s.integrity ∧
    (s.raiseBoth kind w).notices.repeatTimer = s.notices.repeatTimer ∧ (s.raiseBoth kind w).service = s.service ∧
    (s.raiseBoth kind w).faults = s.faults ∧ (s.raiseBoth kind w).resetCtl = s.resetCtl ∧
    (s.raiseBoth kind w).freeCount = s.freeCount ∧ (s.raiseBoth kind w).pending = s.pending := by
  unfold State.raiseBoth
  simp

@[simp] theorem raiseBoth_ports (s : State) (kind : NoticeKind) (w : Option Word) (q : Port) :
    ((s.raiseBoth kind w).links.get q).state = (s.links.get q).state ∧
    ((s.raiseBoth kind w).links.get q).trainingLimit = (s.links.get q).trainingLimit ∧
    ((s.raiseBoth kind w).links.get q).requests = (s.links.get q).requests ∧
    ((s.raiseBoth kind w).links.get q).cache = (s.links.get q).cache ∧
    ((s.raiseBoth kind w).links.get q).sending = (s.links.get q).sending := by
  unfold State.raiseBoth
  simp

@[simp] theorem holdNotices_frame (s : State) :
    (s.holdNotices).links = s.links ∧ (s.holdNotices).sessions = s.sessions ∧ (s.holdNotices).arbiter = s.arbiter ∧
    (s.holdNotices).journal = s.journal ∧ (s.holdNotices).engine = s.engine ∧ (s.holdNotices).sweeper = s.sweeper ∧
    (s.holdNotices).integrity = s.integrity ∧ (s.holdNotices).notices.flags = s.notices.flags ∧
    (s.holdNotices).notices.serials = s.notices.serials ∧
    (s.holdNotices).notices.repeatTimer = s.notices.repeatTimer ∧ (s.holdNotices).service = s.service ∧
    (s.holdNotices).faults = s.faults ∧ (s.holdNotices).resetCtl = s.resetCtl ∧
    (s.holdNotices).freeCount = s.freeCount ∧ (s.holdNotices).pending = s.pending := by
  unfold State.holdNotices
  simp

@[simp] theorem judgeRepeat_frame (s : State) :
    (s.judgeRepeat).links = s.links ∧ (s.judgeRepeat).sessions = s.sessions ∧ (s.judgeRepeat).arbiter = s.arbiter ∧
    (s.judgeRepeat).journal = s.journal ∧ (s.judgeRepeat).engine = s.engine ∧ (s.judgeRepeat).sweeper = s.sweeper ∧
    (s.judgeRepeat).integrity = s.integrity ∧ (s.judgeRepeat).notices.flags = s.notices.flags ∧
    (s.judgeRepeat).notices.serials = s.notices.serials ∧ (s.judgeRepeat).notices.held = s.notices.held ∧
    (s.judgeRepeat).service = s.service ∧ (s.judgeRepeat).faults = s.faults ∧ (s.judgeRepeat).resetCtl = s.resetCtl ∧
    (s.judgeRepeat).freeCount = s.freeCount ∧ (s.judgeRepeat).pending = s.pending := by
  unfold State.judgeRepeat
  repeat' split
  all_goals simp

@[simp] theorem takeAll_frame (s : State) (l : List Raise) :
    (l.foldl State.takeRaise s).sessions = s.sessions ∧ (l.foldl State.takeRaise s).arbiter = s.arbiter ∧
    (l.foldl State.takeRaise s).journal = s.journal ∧ (l.foldl State.takeRaise s).engine = s.engine ∧
    (l.foldl State.takeRaise s).sweeper = s.sweeper ∧ (l.foldl State.takeRaise s).integrity = s.integrity ∧
    (l.foldl State.takeRaise s).notices.repeatTimer = s.notices.repeatTimer ∧
    (l.foldl State.takeRaise s).notices.held = s.notices.held ∧ (l.foldl State.takeRaise s).service = s.service ∧
    (l.foldl State.takeRaise s).faults = s.faults ∧ (l.foldl State.takeRaise s).resetCtl = s.resetCtl ∧
    (l.foldl State.takeRaise s).freeCount = s.freeCount ∧ (l.foldl State.takeRaise s).pending = s.pending := by
  induction l generalizing s with
  | nil => simp
  | cons r rest ih => simpa using ih (s.takeRaise r)

@[simp] theorem takeAll_ports (s : State) (l : List Raise) (q : Port) :
    ((l.foldl State.takeRaise s).links.get q).state = (s.links.get q).state ∧
    ((l.foldl State.takeRaise s).links.get q).trainingLimit = (s.links.get q).trainingLimit ∧
    ((l.foldl State.takeRaise s).links.get q).requests = (s.links.get q).requests ∧
    ((l.foldl State.takeRaise s).links.get q).cache = (s.links.get q).cache ∧
    ((l.foldl State.takeRaise s).links.get q).sending = (s.links.get q).sending := by
  induction l generalizing s with
  | nil => simp
  | cons r rest ih => simpa using ih (s.takeRaise r)

@[simp] theorem releaseNotices_frame (s : State) :
    (s.releaseNotices).sessions = s.sessions ∧ (s.releaseNotices).arbiter = s.arbiter ∧
    (s.releaseNotices).journal = s.journal ∧ (s.releaseNotices).engine = s.engine ∧
    (s.releaseNotices).sweeper = s.sweeper ∧ (s.releaseNotices).integrity = s.integrity ∧
    (s.releaseNotices).notices.repeatTimer = s.notices.repeatTimer ∧ (s.releaseNotices).service = s.service ∧
    (s.releaseNotices).faults = s.faults ∧ (s.releaseNotices).resetCtl = s.resetCtl ∧
    (s.releaseNotices).freeCount = s.freeCount ∧ (s.releaseNotices).pending = s.pending := by
  unfold State.releaseNotices
  simp

@[simp] theorem releaseNotices_ports (s : State) (q : Port) :
    ((s.releaseNotices).links.get q).state = (s.links.get q).state ∧
    ((s.releaseNotices).links.get q).trainingLimit = (s.links.get q).trainingLimit ∧
    ((s.releaseNotices).links.get q).requests = (s.links.get q).requests ∧
    ((s.releaseNotices).links.get q).cache = (s.links.get q).cache ∧
    ((s.releaseNotices).links.get q).sending = (s.links.get q).sending := by
  unfold State.releaseNotices
  simp

@[simp] theorem finish_frame (s : State) :
    (s.finish).sessions = s.sessions ∧ (s.finish).arbiter = s.arbiter ∧ (s.finish).journal = s.journal ∧
    (s.finish).engine = s.engine ∧ (s.finish).sweeper = s.sweeper ∧ (s.finish).integrity = s.integrity ∧
    (s.finish).service = s.service ∧ (s.finish).faults = s.faults ∧ (s.finish).resetCtl = s.resetCtl ∧
    (s.finish).freeCount = s.freeCount ∧ (s.finish).pending = s.pending := by
  unfold State.finish
  simp

@[simp] theorem finish_ports (s : State) (q : Port) :
    ((s.finish).links.get q).state = (s.links.get q).state ∧
    ((s.finish).links.get q).trainingLimit = (s.links.get q).trainingLimit ∧
    ((s.finish).links.get q).requests = (s.links.get q).requests ∧
    ((s.finish).links.get q).cache = (s.links.get q).cache ∧
    ((s.finish).links.get q).sending = (s.links.get q).sending := by
  unfold State.finish
  simp

/-! Fault capture and session ends -/

@[simp] theorem judgeAlert_frame (s : State) :
    (s.judgeAlert).links = s.links ∧ (s.judgeAlert).sessions = s.sessions ∧ (s.judgeAlert).arbiter = s.arbiter ∧
    (s.judgeAlert).journal = s.journal ∧ (s.judgeAlert).engine = s.engine ∧ (s.judgeAlert).sweeper = s.sweeper ∧
    (s.judgeAlert).integrity = s.integrity ∧ (s.judgeAlert).notices = s.notices ∧
    (s.judgeAlert).service = s.service ∧ (s.judgeAlert).resetCtl = s.resetCtl ∧
    (s.judgeAlert).freeCount = s.freeCount ∧ (s.judgeAlert).pending = s.pending := by
  unfold State.judgeAlert
  simp

@[simp] theorem capture_frame (s : State) (f : FaultRecord) :
    (s.capture f).links = s.links ∧ (s.capture f).sessions = s.sessions ∧ (s.capture f).arbiter = s.arbiter ∧
    (s.capture f).journal = s.journal ∧ (s.capture f).engine = s.engine ∧ (s.capture f).sweeper = s.sweeper ∧
    (s.capture f).integrity = s.integrity ∧ (s.capture f).notices = s.notices ∧ (s.capture f).service = s.service ∧
    (s.capture f).resetCtl = s.resetCtl ∧ (s.capture f).freeCount = s.freeCount ∧
    (s.capture f).pending = s.pending := by
  unfold State.capture
  simp

@[simp] theorem markSweep_frame (s : State) :
    (s.markSweep).links = s.links ∧ (s.markSweep).sessions = s.sessions ∧ (s.markSweep).arbiter = s.arbiter ∧
    (s.markSweep).journal = s.journal ∧ (s.markSweep).engine = s.engine ∧
    (s.markSweep).sweeper.position = s.sweeper.position ∧ (s.markSweep).integrity = s.integrity ∧
    (s.markSweep).notices = s.notices ∧ (s.markSweep).service = s.service ∧ (s.markSweep).faults = s.faults ∧
    (s.markSweep).resetCtl = s.resetCtl ∧ (s.markSweep).freeCount = s.freeCount ∧
    (s.markSweep).pending = s.pending := by
  unfold State.markSweep
  simp

@[simp] theorem endSession_frame (s : State) (p : Port) (st : SessionState) :
    (s.endSession p st).links = s.links ∧ (s.endSession p st).arbiter = s.arbiter ∧
    (s.endSession p st).journal = s.journal ∧ (s.endSession p st).engine = s.engine ∧
    (s.endSession p st).sweeper.position = s.sweeper.position ∧ (s.endSession p st).integrity = s.integrity ∧
    (s.endSession p st).notices = s.notices ∧ (s.endSession p st).service = s.service ∧
    (s.endSession p st).faults = s.faults ∧ (s.endSession p st).resetCtl = s.resetCtl ∧
    (s.endSession p st).freeCount = s.freeCount ∧ (s.endSession p st).pending = s.pending := by
  unfold State.endSession
  simp

@[simp] theorem endSession_ports (s : State) (p : Port) (st : SessionState) (q : Port) :
    ((s.endSession p st).sessions.get q).epoch = (s.sessions.get q).epoch ∧
    ((s.endSession p st).sessions.get q).lapseMark = (s.sessions.get q).lapseMark ∧
    ((s.endSession p st).sessions.get q).clearedSince = (s.sessions.get q).clearedSince := by
  unfold State.endSession
  cases p <;> cases q <;> simp [PerPort.get_set, Session.closeTo]

@[simp] theorem leaveTo_frame (s : State) (p : Port) (st : SessionState) :
    (s.leaveTo p st).links = s.links ∧ (s.leaveTo p st).arbiter = s.arbiter ∧ (s.leaveTo p st).journal = s.journal ∧
    (s.leaveTo p st).engine = s.engine ∧ (s.leaveTo p st).sweeper.position = s.sweeper.position ∧
    (s.leaveTo p st).integrity = s.integrity ∧ (s.leaveTo p st).notices = s.notices ∧
    (s.leaveTo p st).service = s.service ∧ (s.leaveTo p st).faults = s.faults ∧
    (s.leaveTo p st).resetCtl = s.resetCtl ∧ (s.leaveTo p st).freeCount = s.freeCount ∧
    (s.leaveTo p st).pending = s.pending := by
  unfold State.leaveTo
  repeat' split
  all_goals simp

@[simp] theorem leaveTo_ports (s : State) (p : Port) (st : SessionState) (q : Port) :
    ((s.leaveTo p st).sessions.get q).epoch = (s.sessions.get q).epoch ∧
    ((s.leaveTo p st).sessions.get q).lapseMark = (s.sessions.get q).lapseMark ∧
    ((s.leaveTo p st).sessions.get q).clearedSince = (s.sessions.get q).clearedSince := by
  unfold State.leaveTo
  split
  · simp
  · cases p <;> cases q <;> simp [PerPort.get_set, Session.closeTo]

@[simp] theorem detachGracefully_frame (s : State) (p : Port) :
    (s.detachGracefully p).arbiter = s.arbiter ∧ (s.detachGracefully p).journal = s.journal ∧
    (s.detachGracefully p).engine = s.engine ∧ (s.detachGracefully p).sweeper = s.sweeper ∧
    (s.detachGracefully p).integrity = s.integrity ∧
    (s.detachGracefully p).notices.repeatTimer = s.notices.repeatTimer ∧ (s.detachGracefully p).service = s.service ∧
    (s.detachGracefully p).faults = s.faults ∧ (s.detachGracefully p).resetCtl = s.resetCtl ∧
    (s.detachGracefully p).freeCount = s.freeCount ∧ (s.detachGracefully p).pending = s.pending := by
  unfold State.detachGracefully
  simp

@[simp] theorem detachGracefully_ports (s : State) (p : Port) (q : Port) :
    ((s.detachGracefully p).links.get q).state = (s.links.get q).state ∧
    ((s.detachGracefully p).links.get q).trainingLimit = (s.links.get q).trainingLimit ∧
    ((s.detachGracefully p).links.get q).requests = (s.links.get q).requests ∧
    ((s.detachGracefully p).links.get q).cache = (s.links.get q).cache ∧
    ((s.detachGracefully p).links.get q).sending = (s.links.get q).sending ∧
    ((s.detachGracefully p).sessions.get q).epoch = (s.sessions.get q).epoch ∧
    ((s.detachGracefully p).sessions.get q).lapseMark = (s.sessions.get q).lapseMark ∧
    ((s.detachGracefully p).sessions.get q).clearedSince = (s.sessions.get q).clearedSince := by
  unfold State.detachGracefully
  cases p <;> cases q <;> simp [PerPort.get_set, Session.closeTo]

@[simp] theorem testDrain_frame (s : State) (p : Port) :
    (s.testDrain p).arbiter = s.arbiter ∧ (s.testDrain p).journal = s.journal ∧ (s.testDrain p).engine = s.engine ∧
    (s.testDrain p).sweeper = s.sweeper ∧ (s.testDrain p).integrity = s.integrity ∧
    (s.testDrain p).notices.repeatTimer = s.notices.repeatTimer ∧ (s.testDrain p).service = s.service ∧
    (s.testDrain p).faults = s.faults ∧ (s.testDrain p).resetCtl = s.resetCtl ∧
    (s.testDrain p).freeCount = s.freeCount ∧ (s.testDrain p).pending = s.pending := by
  unfold State.testDrain
  repeat' split
  all_goals simp

@[simp] theorem testDrain_ports (s : State) (p : Port) (q : Port) :
    ((s.testDrain p).links.get q).state = (s.links.get q).state ∧
    ((s.testDrain p).links.get q).trainingLimit = (s.links.get q).trainingLimit ∧
    ((s.testDrain p).links.get q).requests = (s.links.get q).requests ∧
    ((s.testDrain p).links.get q).cache = (s.links.get q).cache ∧
    ((s.testDrain p).links.get q).sending = (s.links.get q).sending ∧
    ((s.testDrain p).sessions.get q).epoch = (s.sessions.get q).epoch ∧
    ((s.testDrain p).sessions.get q).lapseMark = (s.sessions.get q).lapseMark ∧
    ((s.testDrain p).sessions.get q).clearedSince = (s.sessions.get q).clearedSince := by
  unfold State.testDrain
  repeat' split
  all_goals simp

@[simp] theorem lowerHoldings_frame (s : State) (p : Port) :
    (s.lowerHoldings p).arbiter = s.arbiter ∧ (s.lowerHoldings p).journal = s.journal ∧
    (s.lowerHoldings p).engine = s.engine ∧ (s.lowerHoldings p).sweeper = s.sweeper ∧
    (s.lowerHoldings p).integrity = s.integrity ∧ (s.lowerHoldings p).notices.repeatTimer = s.notices.repeatTimer ∧
    (s.lowerHoldings p).service = s.service ∧ (s.lowerHoldings p).faults = s.faults ∧
    (s.lowerHoldings p).resetCtl = s.resetCtl ∧ (s.lowerHoldings p).freeCount = s.freeCount ∧
    (s.lowerHoldings p).pending = s.pending := by
  unfold State.lowerHoldings
  simp

@[simp] theorem lowerHoldings_ports (s : State) (p : Port) (q : Port) :
    ((s.lowerHoldings p).links.get q).state = (s.links.get q).state ∧
    ((s.lowerHoldings p).links.get q).trainingLimit = (s.links.get q).trainingLimit ∧
    ((s.lowerHoldings p).links.get q).requests = (s.links.get q).requests ∧
    ((s.lowerHoldings p).links.get q).cache = (s.links.get q).cache ∧
    ((s.lowerHoldings p).links.get q).sending = (s.links.get q).sending ∧
    ((s.lowerHoldings p).sessions.get q).epoch = (s.sessions.get q).epoch ∧
    ((s.lowerHoldings p).sessions.get q).lapseMark = (s.sessions.get q).lapseMark ∧
    ((s.lowerHoldings p).sessions.get q).clearedSince = (s.sessions.get q).clearedSince := by
  unfold State.lowerHoldings
  cases p <;> cases q <;> simp [PerPort.get_set]

@[simp] theorem lowerAdoptions_frame (s : State) (p : Port) :
    (s.lowerAdoptions p).arbiter = s.arbiter ∧ (s.lowerAdoptions p).journal = s.journal ∧
    (s.lowerAdoptions p).engine = s.engine ∧ (s.lowerAdoptions p).sweeper = s.sweeper ∧
    (s.lowerAdoptions p).integrity = s.integrity ∧ (s.lowerAdoptions p).notices.repeatTimer = s.notices.repeatTimer ∧
    (s.lowerAdoptions p).service = s.service ∧ (s.lowerAdoptions p).faults = s.faults ∧
    (s.lowerAdoptions p).resetCtl = s.resetCtl ∧ (s.lowerAdoptions p).freeCount = s.freeCount ∧
    (s.lowerAdoptions p).pending = s.pending := by
  unfold State.lowerAdoptions
  simp

@[simp] theorem lowerAdoptions_ports (s : State) (p : Port) (q : Port) :
    ((s.lowerAdoptions p).links.get q).state = (s.links.get q).state ∧
    ((s.lowerAdoptions p).links.get q).trainingLimit = (s.links.get q).trainingLimit ∧
    ((s.lowerAdoptions p).links.get q).requests = (s.links.get q).requests ∧
    ((s.lowerAdoptions p).links.get q).cache = (s.links.get q).cache ∧
    ((s.lowerAdoptions p).links.get q).sending = (s.links.get q).sending ∧
    ((s.lowerAdoptions p).sessions.get q).epoch = (s.sessions.get q).epoch ∧
    ((s.lowerAdoptions p).sessions.get q).lapseMark = (s.sessions.get q).lapseMark ∧
    ((s.lowerAdoptions p).sessions.get q).clearedSince = (s.sessions.get q).clearedSince := by
  unfold State.lowerAdoptions
  cases p <;> cases q <;> simp [PerPort.get_set]

@[simp] theorem raiseHoldings_frame (s : State) (p : Port) :
    (s.raiseHoldings p).links = s.links ∧ (s.raiseHoldings p).arbiter = s.arbiter ∧
    (s.raiseHoldings p).journal = s.journal ∧ (s.raiseHoldings p).engine = s.engine ∧
    (s.raiseHoldings p).sweeper = s.sweeper ∧ (s.raiseHoldings p).integrity = s.integrity ∧
    (s.raiseHoldings p).notices = s.notices ∧ (s.raiseHoldings p).service = s.service ∧
    (s.raiseHoldings p).faults = s.faults ∧ (s.raiseHoldings p).resetCtl = s.resetCtl ∧
    (s.raiseHoldings p).freeCount = s.freeCount ∧ (s.raiseHoldings p).pending = s.pending := by
  unfold State.raiseHoldings
  simp

@[simp] theorem raiseHoldings_ports (s : State) (p : Port) (q : Port) :
    ((s.raiseHoldings p).sessions.get q).state = (s.sessions.get q).state ∧
    ((s.raiseHoldings p).sessions.get q).epoch = (s.sessions.get q).epoch ∧
    ((s.raiseHoldings p).sessions.get q).lapseMark = (s.sessions.get q).lapseMark ∧
    ((s.raiseHoldings p).sessions.get q).adoptions = (s.sessions.get q).adoptions ∧
    ((s.raiseHoldings p).sessions.get q).lapseTimer = (s.sessions.get q).lapseTimer ∧
    ((s.raiseHoldings p).sessions.get q).drainTimer = (s.sessions.get q).drainTimer ∧
    ((s.raiseHoldings p).sessions.get q).clearedSince = (s.sessions.get q).clearedSince ∧
    ((s.raiseHoldings p).sessions.get q).fenceLine = (s.sessions.get q).fenceLine := by
  unfold State.raiseHoldings
  cases p <;> cases q <;> simp [PerPort.get_set]

@[simp] theorem raiseAdoptions_frame (s : State) (p : Port) :
    (s.raiseAdoptions p).links = s.links ∧ (s.raiseAdoptions p).arbiter = s.arbiter ∧
    (s.raiseAdoptions p).journal = s.journal ∧ (s.raiseAdoptions p).engine = s.engine ∧
    (s.raiseAdoptions p).sweeper = s.sweeper ∧ (s.raiseAdoptions p).integrity = s.integrity ∧
    (s.raiseAdoptions p).notices = s.notices ∧ (s.raiseAdoptions p).service = s.service ∧
    (s.raiseAdoptions p).faults = s.faults ∧ (s.raiseAdoptions p).resetCtl = s.resetCtl ∧
    (s.raiseAdoptions p).freeCount = s.freeCount ∧ (s.raiseAdoptions p).pending = s.pending := by
  unfold State.raiseAdoptions
  simp

@[simp] theorem raiseAdoptions_ports (s : State) (p : Port) (q : Port) :
    ((s.raiseAdoptions p).sessions.get q).state = (s.sessions.get q).state ∧
    ((s.raiseAdoptions p).sessions.get q).epoch = (s.sessions.get q).epoch ∧
    ((s.raiseAdoptions p).sessions.get q).lapseMark = (s.sessions.get q).lapseMark ∧
    ((s.raiseAdoptions p).sessions.get q).holdings = (s.sessions.get q).holdings ∧
    ((s.raiseAdoptions p).sessions.get q).lapseTimer = (s.sessions.get q).lapseTimer ∧
    ((s.raiseAdoptions p).sessions.get q).drainTimer = (s.sessions.get q).drainTimer ∧
    ((s.raiseAdoptions p).sessions.get q).clearedSince = (s.sessions.get q).clearedSince ∧
    ((s.raiseAdoptions p).sessions.get q).fenceLine = (s.sessions.get q).fenceLine := by
  unfold State.raiseAdoptions
  cases p <;> cases q <;> simp [PerPort.get_set]

@[simp] theorem lowerHolders_frame (s : State) (h : HolderSummary) :
    (s.lowerHolders h).arbiter = s.arbiter ∧ (s.lowerHolders h).journal = s.journal ∧
    (s.lowerHolders h).engine = s.engine ∧ (s.lowerHolders h).sweeper = s.sweeper ∧
    (s.lowerHolders h).integrity = s.integrity ∧ (s.lowerHolders h).notices.repeatTimer = s.notices.repeatTimer ∧
    (s.lowerHolders h).service = s.service ∧ (s.lowerHolders h).faults = s.faults ∧
    (s.lowerHolders h).resetCtl = s.resetCtl ∧ (s.lowerHolders h).freeCount = s.freeCount ∧
    (s.lowerHolders h).pending = s.pending := by
  unfold State.lowerHolders
  try simp only
  repeat' split
  all_goals simp

@[simp] theorem lowerHolders_ports (s : State) (h : HolderSummary) (q : Port) :
    ((s.lowerHolders h).links.get q).state = (s.links.get q).state ∧
    ((s.lowerHolders h).links.get q).trainingLimit = (s.links.get q).trainingLimit ∧
    ((s.lowerHolders h).links.get q).requests = (s.links.get q).requests ∧
    ((s.lowerHolders h).links.get q).cache = (s.links.get q).cache ∧
    ((s.lowerHolders h).links.get q).sending = (s.links.get q).sending ∧
    ((s.lowerHolders h).sessions.get q).epoch = (s.sessions.get q).epoch ∧
    ((s.lowerHolders h).sessions.get q).lapseMark = (s.sessions.get q).lapseMark ∧
    ((s.lowerHolders h).sessions.get q).clearedSince = (s.sessions.get q).clearedSince := by
  unfold State.lowerHolders
  try simp only
  repeat' split
  all_goals simp

@[simp] theorem fencePort_frame (s : State) (p : Port) (cause : Word) (kind : FaultKind) :
    (s.fencePort p cause kind).arbiter = s.arbiter ∧ (s.fencePort p cause kind).journal = s.journal ∧
    (s.fencePort p cause kind).engine = s.engine ∧ (s.fencePort p cause kind).sweeper.position = s.sweeper.position ∧
    (s.fencePort p cause kind).integrity = s.integrity ∧
    (s.fencePort p cause kind).notices.repeatTimer = s.notices.repeatTimer ∧
    (s.fencePort p cause kind).service = s.service ∧ (s.fencePort p cause kind).resetCtl = s.resetCtl ∧
    (s.fencePort p cause kind).freeCount = s.freeCount ∧ (s.fencePort p cause kind).pending = s.pending := by
  unfold State.fencePort
  simp

@[simp] theorem fencePort_ports (s : State) (p : Port) (cause : Word) (kind : FaultKind) (q : Port) :
    ((s.fencePort p cause kind).links.get q).state = (s.links.get q).state ∧
    ((s.fencePort p cause kind).links.get q).trainingLimit = (s.links.get q).trainingLimit ∧
    ((s.fencePort p cause kind).links.get q).requests = (s.links.get q).requests ∧
    ((s.fencePort p cause kind).links.get q).cache = (s.links.get q).cache ∧
    ((s.fencePort p cause kind).links.get q).sending = (s.links.get q).sending ∧
    ((s.fencePort p cause kind).sessions.get q).epoch = (s.sessions.get q).epoch ∧
    ((s.fencePort p cause kind).sessions.get q).lapseMark = (s.sessions.get q).lapseMark ∧
    ((s.fencePort p cause kind).sessions.get q).clearedSince = (s.sessions.get q).clearedSince := by
  unfold State.fencePort
  simp

/-! Slots, index, orphan list, pool -/

@[simp] theorem putSlot_frame (s : State) (m : Nat) (x : StoredSlot) :
    (s.putSlot m x).links = s.links ∧ (s.putSlot m x).sessions = s.sessions ∧ (s.putSlot m x).arbiter = s.arbiter ∧
    (s.putSlot m x).journal.index = s.journal.index ∧ (s.putSlot m x).journal.pool = s.journal.pool ∧
    (s.putSlot m x).journal.orphans = s.journal.orphans ∧ (s.putSlot m x).journal.stamp = s.journal.stamp ∧
    (s.putSlot m x).journal.generation = s.journal.generation ∧
    (s.putSlot m x).journal.compromised = s.journal.compromised ∧ (s.putSlot m x).engine = s.engine ∧
    (s.putSlot m x).sweeper = s.sweeper ∧ (s.putSlot m x).integrity = s.integrity ∧
    (s.putSlot m x).notices = s.notices ∧ (s.putSlot m x).service = s.service ∧ (s.putSlot m x).faults = s.faults ∧
    (s.putSlot m x).resetCtl = s.resetCtl ∧ (s.putSlot m x).freeCount = s.freeCount ∧
    (s.putSlot m x).pending = s.pending := by
  unfold State.putSlot
  simp

@[simp] theorem freeWrite_frame (s : State) (m : Nat) :
    (s.freeWrite m).links = s.links ∧ (s.freeWrite m).sessions = s.sessions ∧ (s.freeWrite m).arbiter = s.arbiter ∧
    (s.freeWrite m).journal.index = s.journal.index ∧ (s.freeWrite m).journal.pool = s.journal.pool ∧
    (s.freeWrite m).journal.orphans = s.journal.orphans ∧ (s.freeWrite m).journal.stamp = s.journal.stamp ∧
    (s.freeWrite m).journal.generation = s.journal.generation ∧
    (s.freeWrite m).journal.compromised = s.journal.compromised ∧ (s.freeWrite m).engine = s.engine ∧
    (s.freeWrite m).sweeper = s.sweeper ∧ (s.freeWrite m).integrity = s.integrity ∧
    (s.freeWrite m).notices = s.notices ∧ (s.freeWrite m).service = s.service ∧ (s.freeWrite m).faults = s.faults ∧
    (s.freeWrite m).resetCtl = s.resetCtl ∧ (s.freeWrite m).freeCount = s.freeCount ∧
    (s.freeWrite m).pending = s.pending := by
  unfold State.freeWrite
  simp

@[simp] theorem keyWrite_frame (s : State) (m : Nat) (v : KeyValue) :
    (s.keyWrite m v).links = s.links ∧ (s.keyWrite m v).sessions = s.sessions ∧
    (s.keyWrite m v).arbiter = s.arbiter ∧ (s.keyWrite m v).journal.index = s.journal.index ∧
    (s.keyWrite m v).journal.pool = s.journal.pool ∧ (s.keyWrite m v).journal.orphans = s.journal.orphans ∧
    (s.keyWrite m v).journal.stamp = s.journal.stamp ∧ (s.keyWrite m v).journal.generation = s.journal.generation ∧
    (s.keyWrite m v).journal.compromised = s.journal.compromised ∧ (s.keyWrite m v).engine = s.engine ∧
    (s.keyWrite m v).sweeper = s.sweeper ∧ (s.keyWrite m v).integrity = s.integrity ∧
    (s.keyWrite m v).notices = s.notices ∧ (s.keyWrite m v).service = s.service ∧
    (s.keyWrite m v).faults = s.faults ∧ (s.keyWrite m v).resetCtl = s.resetCtl ∧
    (s.keyWrite m v).freeCount = s.freeCount ∧ (s.keyWrite m v).pending = s.pending := by
  unfold State.keyWrite
  simp

@[simp] theorem bodyWrite_frame (s : State) (m : Nat) (e : EntryBody) :
    (s.bodyWrite m e).links = s.links ∧ (s.bodyWrite m e).sessions = s.sessions ∧
    (s.bodyWrite m e).arbiter = s.arbiter ∧ (s.bodyWrite m e).journal.pool = s.journal.pool ∧
    (s.bodyWrite m e).journal.orphans = s.journal.orphans ∧ (s.bodyWrite m e).journal.stamp = s.journal.stamp ∧
    (s.bodyWrite m e).journal.generation = s.journal.generation ∧
    (s.bodyWrite m e).journal.compromised = s.journal.compromised ∧ (s.bodyWrite m e).engine = s.engine ∧
    (s.bodyWrite m e).sweeper = s.sweeper ∧ (s.bodyWrite m e).integrity = s.integrity ∧
    (s.bodyWrite m e).notices = s.notices ∧ (s.bodyWrite m e).service = s.service ∧
    (s.bodyWrite m e).faults = s.faults ∧ (s.bodyWrite m e).resetCtl = s.resetCtl ∧
    (s.bodyWrite m e).freeCount = s.freeCount ∧ (s.bodyWrite m e).pending = s.pending := by
  unfold State.bodyWrite
  repeat' split
  all_goals simp

@[simp] theorem entryWrite_frame (s : State) (m : Nat) (key : RegionKey) (e : EntryBody) :
    (s.entryWrite m key e).links = s.links ∧ (s.entryWrite m key e).sessions = s.sessions ∧
    (s.entryWrite m key e).arbiter = s.arbiter ∧ (s.entryWrite m key e).journal.pool = s.journal.pool ∧
    (s.entryWrite m key e).journal.orphans = s.journal.orphans ∧
    (s.entryWrite m key e).journal.stamp = s.journal.stamp ∧
    (s.entryWrite m key e).journal.generation = s.journal.generation ∧
    (s.entryWrite m key e).journal.compromised = s.journal.compromised ∧ (s.entryWrite m key e).engine = s.engine ∧
    (s.entryWrite m key e).sweeper = s.sweeper ∧ (s.entryWrite m key e).integrity = s.integrity ∧
    (s.entryWrite m key e).notices = s.notices ∧ (s.entryWrite m key e).service = s.service ∧
    (s.entryWrite m key e).faults = s.faults ∧ (s.entryWrite m key e).resetCtl = s.resetCtl ∧
    (s.entryWrite m key e).freeCount = s.freeCount ∧ (s.entryWrite m key e).pending = s.pending := by
  unfold State.entryWrite
  simp

@[simp] theorem keepRequest_frame (s : State) (m : Nat) :
    (s.keepRequest m).links = s.links ∧ (s.keepRequest m).sessions = s.sessions ∧
    (s.keepRequest m).arbiter.pointer = s.arbiter.pointer ∧ (s.keepRequest m).arbiter.scrubTimer = s.arbiter.scrubTimer ∧
    (s.keepRequest m).arbiter.scrubDue = s.arbiter.scrubDue ∧
    (s.keepRequest m).arbiter.lastWasScrub = s.arbiter.lastWasScrub ∧ (s.keepRequest m).journal = s.journal ∧
    (s.keepRequest m).engine = s.engine ∧ (s.keepRequest m).sweeper = s.sweeper ∧
    (s.keepRequest m).integrity = s.integrity ∧ (s.keepRequest m).notices = s.notices ∧
    (s.keepRequest m).service = s.service ∧ (s.keepRequest m).faults = s.faults ∧
    (s.keepRequest m).resetCtl = s.resetCtl ∧ (s.keepRequest m).freeCount = s.freeCount ∧
    (s.keepRequest m).pending = s.pending := by
  simp [State.keepRequest]

@[simp] theorem unlink_frame (s : State) (m : Nat) :
    (s.unlink m).links = s.links ∧ (s.unlink m).sessions = s.sessions ∧
    (s.unlink m).arbiter.pointer = s.arbiter.pointer ∧ (s.unlink m).arbiter.scrubTimer = s.arbiter.scrubTimer ∧
    (s.unlink m).arbiter.scrubDue = s.arbiter.scrubDue ∧ (s.unlink m).arbiter.lastWasScrub = s.arbiter.lastWasScrub ∧
    (s.unlink m).journal.store = s.journal.store ∧ (s.unlink m).journal.pool = s.journal.pool ∧
    (s.unlink m).journal.orphans = s.journal.orphans ∧ (s.unlink m).journal.stamp = s.journal.stamp ∧
    (s.unlink m).journal.generation = s.journal.generation ∧
    (s.unlink m).journal.compromised = s.journal.compromised ∧ (s.unlink m).engine = s.engine ∧
    (s.unlink m).sweeper = s.sweeper ∧ (s.unlink m).integrity = s.integrity ∧ (s.unlink m).notices = s.notices ∧
    (s.unlink m).service = s.service ∧ (s.unlink m).faults = s.faults ∧ (s.unlink m).resetCtl = s.resetCtl ∧
    (s.unlink m).freeCount = s.freeCount ∧ (s.unlink m).pending = s.pending := by
  unfold State.unlink
  simp

@[simp] theorem dropOrphan_frame (s : State) (key : RegionKey) :
    (s.dropOrphan key).links = s.links ∧ (s.dropOrphan key).sessions = s.sessions ∧
    (s.dropOrphan key).arbiter = s.arbiter ∧ (s.dropOrphan key).journal.store = s.journal.store ∧
    (s.dropOrphan key).journal.index = s.journal.index ∧ (s.dropOrphan key).journal.pool = s.journal.pool ∧
    (s.dropOrphan key).journal.stamp = s.journal.stamp ∧
    (s.dropOrphan key).journal.generation = s.journal.generation ∧
    (s.dropOrphan key).journal.compromised = s.journal.compromised ∧ (s.dropOrphan key).engine = s.engine ∧
    (s.dropOrphan key).sweeper = s.sweeper ∧ (s.dropOrphan key).integrity = s.integrity ∧
    (s.dropOrphan key).notices = s.notices ∧ (s.dropOrphan key).service = s.service ∧
    (s.dropOrphan key).faults = s.faults ∧ (s.dropOrphan key).resetCtl = s.resetCtl ∧
    (s.dropOrphan key).freeCount = s.freeCount ∧ (s.dropOrphan key).pending = s.pending := by
  unfold State.dropOrphan
  simp

@[simp] theorem joinOrphans_frame (s : State) (key : RegionKey) (stamp : Stamp) :
    (s.joinOrphans key stamp).sessions = s.sessions ∧ (s.joinOrphans key stamp).arbiter = s.arbiter ∧
    (s.joinOrphans key stamp).journal.store = s.journal.store ∧
    (s.joinOrphans key stamp).journal.index = s.journal.index ∧
    (s.joinOrphans key stamp).journal.pool = s.journal.pool ∧
    (s.joinOrphans key stamp).journal.stamp = s.journal.stamp ∧
    (s.joinOrphans key stamp).journal.generation = s.journal.generation ∧
    (s.joinOrphans key stamp).journal.compromised = s.journal.compromised ∧
    (s.joinOrphans key stamp).engine = s.engine ∧ (s.joinOrphans key stamp).sweeper = s.sweeper ∧
    (s.joinOrphans key stamp).integrity = s.integrity ∧
    (s.joinOrphans key stamp).notices.repeatTimer = s.notices.repeatTimer ∧
    (s.joinOrphans key stamp).service = s.service ∧ (s.joinOrphans key stamp).faults = s.faults ∧
    (s.joinOrphans key stamp).resetCtl = s.resetCtl ∧ (s.joinOrphans key stamp).freeCount = s.freeCount ∧
    (s.joinOrphans key stamp).pending = s.pending := by
  unfold State.joinOrphans
  repeat' split
  all_goals simp

@[simp] theorem joinOrphans_ports (s : State) (key : RegionKey) (stamp : Stamp) (q : Port) :
    ((s.joinOrphans key stamp).links.get q).state = (s.links.get q).state ∧
    ((s.joinOrphans key stamp).links.get q).trainingLimit = (s.links.get q).trainingLimit ∧
    ((s.joinOrphans key stamp).links.get q).requests = (s.links.get q).requests ∧
    ((s.joinOrphans key stamp).links.get q).cache = (s.links.get q).cache ∧
    ((s.joinOrphans key stamp).links.get q).sending = (s.links.get q).sending := by
  unfold State.joinOrphans
  repeat' split
  all_goals simp

@[simp] theorem lowWaterTest_frame (s : State) :
    (s.lowWaterTest).sessions = s.sessions ∧ (s.lowWaterTest).arbiter = s.arbiter ∧
    (s.lowWaterTest).journal = s.journal ∧ (s.lowWaterTest).engine.state = s.engine.state ∧
    (s.lowWaterTest).engine.rememberedFreeze = s.engine.rememberedFreeze ∧
    (s.lowWaterTest).engine.initPos = s.engine.initPos ∧ (s.lowWaterTest).sweeper = s.sweeper ∧
    (s.lowWaterTest).integrity = s.integrity ∧ (s.lowWaterTest).notices.repeatTimer = s.notices.repeatTimer ∧
    (s.lowWaterTest).service = s.service ∧ (s.lowWaterTest).faults = s.faults ∧
    (s.lowWaterTest).resetCtl = s.resetCtl ∧ (s.lowWaterTest).freeCount = s.freeCount ∧
    (s.lowWaterTest).pending = s.pending := by
  unfold State.lowWaterTest
  repeat' split
  all_goals simp

@[simp] theorem lowWaterTest_ports (s : State) (q : Port) :
    ((s.lowWaterTest).links.get q).state = (s.links.get q).state ∧
    ((s.lowWaterTest).links.get q).trainingLimit = (s.links.get q).trainingLimit ∧
    ((s.lowWaterTest).links.get q).requests = (s.links.get q).requests ∧
    ((s.lowWaterTest).links.get q).cache = (s.links.get q).cache ∧
    ((s.lowWaterTest).links.get q).sending = (s.links.get q).sending := by
  unfold State.lowWaterTest
  repeat' split
  all_goals simp

@[simp] theorem rearmTest_frame (s : State) :
    (s.rearmTest).links = s.links ∧ (s.rearmTest).sessions = s.sessions ∧ (s.rearmTest).arbiter = s.arbiter ∧
    (s.rearmTest).journal = s.journal ∧ (s.rearmTest).engine.state = s.engine.state ∧
    (s.rearmTest).engine.rememberedFreeze = s.engine.rememberedFreeze ∧
    (s.rearmTest).engine.initPos = s.engine.initPos ∧ (s.rearmTest).sweeper = s.sweeper ∧
    (s.rearmTest).integrity = s.integrity ∧ (s.rearmTest).notices = s.notices ∧ (s.rearmTest).service = s.service ∧
    (s.rearmTest).faults = s.faults ∧ (s.rearmTest).resetCtl = s.resetCtl ∧ (s.rearmTest).freeCount = s.freeCount ∧
    (s.rearmTest).pending = s.pending := by
  unfold State.rearmTest
  repeat' split
  all_goals simp

@[simp] theorem poolSlot_frame (s : State) (m : Nat) :
    (s.poolSlot m).links = s.links ∧ (s.poolSlot m).sessions = s.sessions ∧ (s.poolSlot m).arbiter = s.arbiter ∧
    (s.poolSlot m).journal.store = s.journal.store ∧ (s.poolSlot m).journal.index = s.journal.index ∧
    (s.poolSlot m).journal.orphans = s.journal.orphans ∧ (s.poolSlot m).journal.stamp = s.journal.stamp ∧
    (s.poolSlot m).journal.generation = s.journal.generation ∧
    (s.poolSlot m).journal.compromised = s.journal.compromised ∧ (s.poolSlot m).engine.state = s.engine.state ∧
    (s.poolSlot m).engine.rememberedFreeze = s.engine.rememberedFreeze ∧
    (s.poolSlot m).engine.initPos = s.engine.initPos ∧ (s.poolSlot m).sweeper = s.sweeper ∧
    (s.poolSlot m).integrity = s.integrity ∧ (s.poolSlot m).notices = s.notices ∧
    (s.poolSlot m).service = s.service ∧ (s.poolSlot m).faults = s.faults ∧ (s.poolSlot m).resetCtl = s.resetCtl ∧
    (s.poolSlot m).freeCount = s.freeCount ∧ (s.poolSlot m).pending = s.pending := by
  unfold State.poolSlot
  simp

/-! Block retirement -/

@[simp] theorem setBlockState_frame (s : State) (b : Nat) (st : BlockState) :
    (s.setBlockState b st).links = s.links ∧ (s.setBlockState b st).sessions = s.sessions ∧
    (s.setBlockState b st).arbiter = s.arbiter ∧ (s.setBlockState b st).journal = s.journal ∧
    (s.setBlockState b st).engine = s.engine ∧ (s.setBlockState b st).sweeper = s.sweeper ∧
    (s.setBlockState b st).integrity.retireQueue = s.integrity.retireQueue ∧
    (s.setBlockState b st).integrity.reserve = s.integrity.reserve ∧
    (s.setBlockState b st).integrity.leakTimer = s.integrity.leakTimer ∧
    (s.setBlockState b st).integrity.scrubPosition = s.integrity.scrubPosition ∧
    (s.setBlockState b st).notices = s.notices ∧ (s.setBlockState b st).service = s.service ∧
    (s.setBlockState b st).faults = s.faults ∧ (s.setBlockState b st).resetCtl = s.resetCtl ∧
    (s.setBlockState b st).freeCount = s.freeCount ∧ (s.setBlockState b st).pending = s.pending := by
  unfold State.setBlockState Integrity.setBlock
  simp

@[simp] theorem lowerReserve_frame (s : State) :
    (s.lowerReserve).links = s.links ∧ (s.lowerReserve).sessions = s.sessions ∧
    (s.lowerReserve).arbiter = s.arbiter ∧ (s.lowerReserve).journal = s.journal ∧
    (s.lowerReserve).engine = s.engine ∧ (s.lowerReserve).sweeper = s.sweeper ∧
    (s.lowerReserve).integrity.blocks = s.integrity.blocks ∧
    (s.lowerReserve).integrity.retireQueue = s.integrity.retireQueue ∧
    (s.lowerReserve).integrity.leakTimer = s.integrity.leakTimer ∧
    (s.lowerReserve).integrity.scrubPosition = s.integrity.scrubPosition ∧ (s.lowerReserve).notices = s.notices ∧
    (s.lowerReserve).service = s.service ∧ (s.lowerReserve).faults = s.faults ∧
    (s.lowerReserve).resetCtl = s.resetCtl ∧ (s.lowerReserve).freeCount = s.freeCount ∧
    (s.lowerReserve).pending = s.pending := by
  unfold State.lowerReserve
  simp

@[simp] theorem retire_frame (s : State) (b : Nat) :
    (s.retire b).sessions = s.sessions ∧ (s.retire b).arbiter = s.arbiter ∧ (s.retire b).journal = s.journal ∧
    (s.retire b).engine = s.engine ∧ (s.retire b).sweeper = s.sweeper ∧
    (s.retire b).integrity.retireQueue = s.integrity.retireQueue ∧
    (s.retire b).integrity.leakTimer = s.integrity.leakTimer ∧
    (s.retire b).integrity.scrubPosition = s.integrity.scrubPosition ∧
    (s.retire b).notices.repeatTimer = s.notices.repeatTimer ∧ (s.retire b).service = s.service ∧
    (s.retire b).faults = s.faults ∧ (s.retire b).resetCtl = s.resetCtl ∧ (s.retire b).freeCount = s.freeCount ∧
    (s.retire b).pending = s.pending := by
  unfold State.retire
  simp

@[simp] theorem retire_ports (s : State) (b : Nat) (q : Port) :
    ((s.retire b).links.get q).state = (s.links.get q).state ∧
    ((s.retire b).links.get q).trainingLimit = (s.links.get q).trainingLimit ∧
    ((s.retire b).links.get q).requests = (s.links.get q).requests ∧
    ((s.retire b).links.get q).cache = (s.links.get q).cache ∧
    ((s.retire b).links.get q).sending = (s.links.get q).sending := by
  unfold State.retire
  simp

@[simp] theorem testProgress_frame (s : State) :
    (s.testProgress).sessions = s.sessions ∧ (s.testProgress).arbiter = s.arbiter ∧
    (s.testProgress).journal = s.journal ∧ (s.testProgress).engine = s.engine ∧
    (s.testProgress).sweeper = s.sweeper ∧ (s.testProgress).integrity.retireQueue = s.integrity.retireQueue ∧
    (s.testProgress).integrity.leakTimer = s.integrity.leakTimer ∧
    (s.testProgress).integrity.scrubPosition = s.integrity.scrubPosition ∧
    (s.testProgress).notices.repeatTimer = s.notices.repeatTimer ∧ (s.testProgress).service = s.service ∧
    (s.testProgress).faults = s.faults ∧ (s.testProgress).resetCtl = s.resetCtl ∧
    (s.testProgress).freeCount = s.freeCount ∧ (s.testProgress).pending = s.pending := by
  unfold State.testProgress
  repeat' split
  all_goals simp

@[simp] theorem testProgress_ports (s : State) (q : Port) :
    ((s.testProgress).links.get q).state = (s.links.get q).state ∧
    ((s.testProgress).links.get q).trainingLimit = (s.links.get q).trainingLimit ∧
    ((s.testProgress).links.get q).requests = (s.links.get q).requests ∧
    ((s.testProgress).links.get q).cache = (s.links.get q).cache ∧
    ((s.testProgress).links.get q).sending = (s.links.get q).sending := by
  unfold State.testProgress
  repeat' split
  all_goals simp

@[simp] theorem enterClosing_frame (s : State) (b : Nat) (rest : List Nat) :
    (s.enterClosing b rest).sessions = s.sessions ∧ (s.enterClosing b rest).arbiter = s.arbiter ∧
    (s.enterClosing b rest).journal.store = s.journal.store ∧
    (s.enterClosing b rest).journal.index = s.journal.index ∧
    (s.enterClosing b rest).journal.orphans = s.journal.orphans ∧
    (s.enterClosing b rest).journal.stamp = s.journal.stamp ∧
    (s.enterClosing b rest).journal.generation = s.journal.generation ∧
    (s.enterClosing b rest).journal.compromised = s.journal.compromised ∧
    (s.enterClosing b rest).engine.state = s.engine.state ∧
    (s.enterClosing b rest).engine.rememberedFreeze = s.engine.rememberedFreeze ∧
    (s.enterClosing b rest).engine.initPos = s.engine.initPos ∧ (s.enterClosing b rest).sweeper = s.sweeper ∧
    (s.enterClosing b rest).integrity.leakTimer = s.integrity.leakTimer ∧
    (s.enterClosing b rest).integrity.scrubPosition = s.integrity.scrubPosition ∧
    (s.enterClosing b rest).notices.repeatTimer = s.notices.repeatTimer ∧
    (s.enterClosing b rest).service = s.service ∧ (s.enterClosing b rest).faults = s.faults ∧
    (s.enterClosing b rest).resetCtl = s.resetCtl ∧ (s.enterClosing b rest).freeCount = s.freeCount ∧
    (s.enterClosing b rest).pending = s.pending := by
  unfold State.enterClosing
  try simp only
  repeat' split
  all_goals simp

@[simp] theorem enterClosing_ports (s : State) (b : Nat) (rest : List Nat) (q : Port) :
    ((s.enterClosing b rest).links.get q).state = (s.links.get q).state ∧
    ((s.enterClosing b rest).links.get q).trainingLimit = (s.links.get q).trainingLimit ∧
    ((s.enterClosing b rest).links.get q).requests = (s.links.get q).requests ∧
    ((s.enterClosing b rest).links.get q).cache = (s.links.get q).cache ∧
    ((s.enterClosing b rest).links.get q).sending = (s.links.get q).sending := by
  unfold State.enterClosing
  try simp only
  repeat' split
  all_goals simp

@[simp] theorem settleWithin_frame (s : State) (fuel : Nat) :
    (s.settleWithin fuel).sessions = s.sessions ∧ (s.settleWithin fuel).arbiter = s.arbiter ∧
    (s.settleWithin fuel).journal.store = s.journal.store ∧ (s.settleWithin fuel).journal.index = s.journal.index ∧
    (s.settleWithin fuel).journal.orphans = s.journal.orphans ∧
    (s.settleWithin fuel).journal.stamp = s.journal.stamp ∧
    (s.settleWithin fuel).journal.generation = s.journal.generation ∧
    (s.settleWithin fuel).journal.compromised = s.journal.compromised ∧
    (s.settleWithin fuel).engine.state = s.engine.state ∧
    (s.settleWithin fuel).engine.rememberedFreeze = s.engine.rememberedFreeze ∧
    (s.settleWithin fuel).engine.initPos = s.engine.initPos ∧ (s.settleWithin fuel).sweeper = s.sweeper ∧
    (s.settleWithin fuel).integrity.leakTimer = s.integrity.leakTimer ∧
    (s.settleWithin fuel).integrity.scrubPosition = s.integrity.scrubPosition ∧
    (s.settleWithin fuel).notices.repeatTimer = s.notices.repeatTimer ∧ (s.settleWithin fuel).service = s.service ∧
    (s.settleWithin fuel).faults = s.faults ∧ (s.settleWithin fuel).resetCtl = s.resetCtl ∧
    (s.settleWithin fuel).freeCount = s.freeCount ∧ (s.settleWithin fuel).pending = s.pending := by
  induction fuel generalizing s with
  | zero => simp [State.settleWithin]
  | succ fuel ih =>
    unfold State.settleWithin
    simp only
    split
    · split
      · rename_i b rest _
        simpa using ih (s.testProgress.enterClosing b rest)
      · simp
    · simp

@[simp] theorem settleWithin_ports (s : State) (fuel : Nat) (q : Port) :
    ((s.settleWithin fuel).links.get q).state = (s.links.get q).state ∧
    ((s.settleWithin fuel).links.get q).trainingLimit = (s.links.get q).trainingLimit ∧
    ((s.settleWithin fuel).links.get q).requests = (s.links.get q).requests ∧
    ((s.settleWithin fuel).links.get q).cache = (s.links.get q).cache ∧
    ((s.settleWithin fuel).links.get q).sending = (s.links.get q).sending := by
  induction fuel generalizing s with
  | zero => simp [State.settleWithin]
  | succ fuel ih =>
    unfold State.settleWithin
    simp only
    split
    · split
      · rename_i b rest _
        simpa using ih (s.testProgress.enterClosing b rest)
      · simp
    · simp

@[simp] theorem settle_frame (s : State) :
    (s.settle).sessions = s.sessions ∧ (s.settle).arbiter = s.arbiter ∧ (s.settle).journal.store = s.journal.store ∧
    (s.settle).journal.index = s.journal.index ∧ (s.settle).journal.orphans = s.journal.orphans ∧
    (s.settle).journal.stamp = s.journal.stamp ∧ (s.settle).journal.generation = s.journal.generation ∧
    (s.settle).journal.compromised = s.journal.compromised ∧ (s.settle).engine.state = s.engine.state ∧
    (s.settle).engine.rememberedFreeze = s.engine.rememberedFreeze ∧ (s.settle).engine.initPos = s.engine.initPos ∧
    (s.settle).sweeper = s.sweeper ∧ (s.settle).integrity.leakTimer = s.integrity.leakTimer ∧
    (s.settle).integrity.scrubPosition = s.integrity.scrubPosition ∧
    (s.settle).notices.repeatTimer = s.notices.repeatTimer ∧ (s.settle).service = s.service ∧
    (s.settle).faults = s.faults ∧ (s.settle).resetCtl = s.resetCtl ∧ (s.settle).freeCount = s.freeCount ∧
    (s.settle).pending = s.pending := by
  unfold State.settle
  simp

@[simp] theorem settle_ports (s : State) (q : Port) :
    ((s.settle).links.get q).state = (s.links.get q).state ∧
    ((s.settle).links.get q).trainingLimit = (s.links.get q).trainingLimit ∧
    ((s.settle).links.get q).requests = (s.links.get q).requests ∧
    ((s.settle).links.get q).cache = (s.links.get q).cache ∧
    ((s.settle).links.get q).sending = (s.links.get q).sending := by
  unfold State.settle
  simp

@[simp] theorem enterIfDue_frame (s : State) :
    (s.enterIfDue).sessions = s.sessions ∧ (s.enterIfDue).arbiter = s.arbiter ∧
    (s.enterIfDue).journal.store = s.journal.store ∧ (s.enterIfDue).journal.index = s.journal.index ∧
    (s.enterIfDue).journal.orphans = s.journal.orphans ∧ (s.enterIfDue).journal.stamp = s.journal.stamp ∧
    (s.enterIfDue).journal.generation = s.journal.generation ∧
    (s.enterIfDue).journal.compromised = s.journal.compromised ∧ (s.enterIfDue).engine.state = s.engine.state ∧
    (s.enterIfDue).engine.rememberedFreeze = s.engine.rememberedFreeze ∧
    (s.enterIfDue).engine.initPos = s.engine.initPos ∧ (s.enterIfDue).sweeper = s.sweeper ∧
    (s.enterIfDue).integrity.leakTimer = s.integrity.leakTimer ∧
    (s.enterIfDue).integrity.scrubPosition = s.integrity.scrubPosition ∧
    (s.enterIfDue).notices.repeatTimer = s.notices.repeatTimer ∧ (s.enterIfDue).service = s.service ∧
    (s.enterIfDue).faults = s.faults ∧ (s.enterIfDue).resetCtl = s.resetCtl ∧
    (s.enterIfDue).freeCount = s.freeCount ∧ (s.enterIfDue).pending = s.pending := by
  unfold State.enterIfDue
  repeat' split
  all_goals simp

@[simp] theorem enterIfDue_ports (s : State) (q : Port) :
    ((s.enterIfDue).links.get q).state = (s.links.get q).state ∧
    ((s.enterIfDue).links.get q).trainingLimit = (s.links.get q).trainingLimit ∧
    ((s.enterIfDue).links.get q).requests = (s.links.get q).requests ∧
    ((s.enterIfDue).links.get q).cache = (s.links.get q).cache ∧
    ((s.enterIfDue).links.get q).sending = (s.links.get q).sending := by
  unfold State.enterIfDue
  repeat' split
  all_goals simp

@[simp] theorem queueBlock_frame (s : State) (b : Nat) :
    (s.queueBlock b).links = s.links ∧ (s.queueBlock b).sessions = s.sessions ∧
    (s.queueBlock b).arbiter = s.arbiter ∧ (s.queueBlock b).journal = s.journal ∧
    (s.queueBlock b).engine = s.engine ∧ (s.queueBlock b).sweeper = s.sweeper ∧
    (s.queueBlock b).integrity.blocks = s.integrity.blocks ∧
    (s.queueBlock b).integrity.reserve = s.integrity.reserve ∧
    (s.queueBlock b).integrity.leakTimer = s.integrity.leakTimer ∧
    (s.queueBlock b).integrity.scrubPosition = s.integrity.scrubPosition ∧ (s.queueBlock b).notices = s.notices ∧
    (s.queueBlock b).service = s.service ∧ (s.queueBlock b).resetCtl = s.resetCtl ∧
    (s.queueBlock b).freeCount = s.freeCount ∧ (s.queueBlock b).pending = s.pending := by
  unfold State.queueBlock
  repeat' split
  all_goals simp

@[simp] theorem freeSlotOf_frame (s : State) (m : Nat) :
    (s.freeSlotOf m).links = s.links ∧ (s.freeSlotOf m).sessions = s.sessions ∧
    (s.freeSlotOf m).arbiter = s.arbiter ∧ (s.freeSlotOf m).journal.store = s.journal.store ∧
    (s.freeSlotOf m).journal.index = s.journal.index ∧ (s.freeSlotOf m).journal.orphans = s.journal.orphans ∧
    (s.freeSlotOf m).journal.stamp = s.journal.stamp ∧ (s.freeSlotOf m).journal.generation = s.journal.generation ∧
    (s.freeSlotOf m).journal.compromised = s.journal.compromised ∧ (s.freeSlotOf m).engine.state = s.engine.state ∧
    (s.freeSlotOf m).engine.rememberedFreeze = s.engine.rememberedFreeze ∧
    (s.freeSlotOf m).engine.initPos = s.engine.initPos ∧ (s.freeSlotOf m).sweeper = s.sweeper ∧
    (s.freeSlotOf m).integrity.blocks = s.integrity.blocks ∧
    (s.freeSlotOf m).integrity.retireQueue = s.integrity.retireQueue ∧
    (s.freeSlotOf m).integrity.leakTimer = s.integrity.leakTimer ∧
    (s.freeSlotOf m).integrity.scrubPosition = s.integrity.scrubPosition ∧ (s.freeSlotOf m).notices = s.notices ∧
    (s.freeSlotOf m).service = s.service ∧ (s.freeSlotOf m).faults = s.faults ∧
    (s.freeSlotOf m).resetCtl = s.resetCtl ∧ (s.freeSlotOf m).freeCount = s.freeCount ∧
    (s.freeSlotOf m).pending = s.pending := by
  unfold State.freeSlotOf
  repeat' split
  all_goals simp

@[simp] theorem removeEntry_frame (s : State) (m : Nat) :
    (s.removeEntry m).sessions = s.sessions ∧
    (s.removeEntry m).arbiter.pointer = s.arbiter.pointer ∧ (s.removeEntry m).arbiter.scrubTimer = s.arbiter.scrubTimer ∧
    (s.removeEntry m).arbiter.scrubDue = s.arbiter.scrubDue ∧ (s.removeEntry m).arbiter.lastWasScrub = s.arbiter.lastWasScrub ∧
    (s.removeEntry m).journal.orphans = s.journal.orphans ∧ (s.removeEntry m).journal.stamp = s.journal.stamp ∧
    (s.removeEntry m).journal.generation = s.journal.generation ∧
    (s.removeEntry m).journal.compromised = s.journal.compromised ∧ (s.removeEntry m).engine.state = s.engine.state ∧
    (s.removeEntry m).engine.rememberedFreeze = s.engine.rememberedFreeze ∧
    (s.removeEntry m).engine.initPos = s.engine.initPos ∧ (s.removeEntry m).sweeper = s.sweeper ∧
    (s.removeEntry m).integrity.leakTimer = s.integrity.leakTimer ∧
    (s.removeEntry m).integrity.scrubPosition = s.integrity.scrubPosition ∧
    (s.removeEntry m).notices.repeatTimer = s.notices.repeatTimer ∧ (s.removeEntry m).service = s.service ∧
    (s.removeEntry m).faults = s.faults ∧ (s.removeEntry m).resetCtl = s.resetCtl ∧
    (s.removeEntry m).freeCount = s.freeCount ∧ (s.removeEntry m).pending = s.pending := by
  unfold State.removeEntry
  simp

@[simp] theorem removeEntry_ports (s : State) (m : Nat) (q : Port) :
    ((s.removeEntry m).links.get q).state = (s.links.get q).state ∧
    ((s.removeEntry m).links.get q).trainingLimit = (s.links.get q).trainingLimit ∧
    ((s.removeEntry m).links.get q).requests = (s.links.get q).requests ∧
    ((s.removeEntry m).links.get q).cache = (s.links.get q).cache ∧
    ((s.removeEntry m).links.get q).sending = (s.links.get q).sending := by
  unfold State.removeEntry
  simp

/-! The slot read -/

@[simp] theorem judgeRead_frame (s : State) (m : Nat) (o : ReadOutcome) :
    (s.judgeRead m o).sessions = s.sessions ∧ (s.judgeRead m o).arbiter = s.arbiter ∧
    (s.judgeRead m o).journal.store = s.journal.store ∧ (s.judgeRead m o).journal.index = s.journal.index ∧
    (s.judgeRead m o).journal.orphans = s.journal.orphans ∧ (s.judgeRead m o).journal.stamp = s.journal.stamp ∧
    (s.judgeRead m o).journal.generation = s.journal.generation ∧
    (s.judgeRead m o).journal.compromised = s.journal.compromised ∧ (s.judgeRead m o).engine.state = s.engine.state ∧
    (s.judgeRead m o).engine.rememberedFreeze = s.engine.rememberedFreeze ∧
    (s.judgeRead m o).engine.initPos = s.engine.initPos ∧ (s.judgeRead m o).sweeper = s.sweeper ∧
    (s.judgeRead m o).integrity.leakTimer = s.integrity.leakTimer ∧
    (s.judgeRead m o).integrity.scrubPosition = s.integrity.scrubPosition ∧
    (s.judgeRead m o).notices.repeatTimer = s.notices.repeatTimer ∧ (s.judgeRead m o).service = s.service ∧
    (s.judgeRead m o).resetCtl = s.resetCtl ∧ (s.judgeRead m o).freeCount = s.freeCount ∧
    (s.judgeRead m o).pending = s.pending := by
  unfold State.judgeRead
  simp only
  repeat' split
  all_goals simp

@[simp] theorem judgeRead_ports (s : State) (m : Nat) (o : ReadOutcome) (q : Port) :
    ((s.judgeRead m o).links.get q).state = (s.links.get q).state ∧
    ((s.judgeRead m o).links.get q).trainingLimit = (s.links.get q).trainingLimit ∧
    ((s.judgeRead m o).links.get q).requests = (s.links.get q).requests ∧
    ((s.judgeRead m o).links.get q).cache = (s.links.get q).cache ∧
    ((s.judgeRead m o).links.get q).sending = (s.links.get q).sending := by
  unfold State.judgeRead
  simp only
  repeat' split
  all_goals simp

@[simp] theorem loseEntry_frame (s : State) (m : Nat) (a : Association) :
    (s.loseEntry m a).arbiter.pointer = s.arbiter.pointer ∧ (s.loseEntry m a).arbiter.scrubTimer = s.arbiter.scrubTimer ∧
    (s.loseEntry m a).arbiter.scrubDue = s.arbiter.scrubDue ∧ (s.loseEntry m a).arbiter.lastWasScrub = s.arbiter.lastWasScrub ∧
    (s.loseEntry m a).journal.stamp = s.journal.stamp ∧
    (s.loseEntry m a).journal.generation = s.journal.generation ∧ (s.loseEntry m a).engine.state = s.engine.state ∧
    (s.loseEntry m a).engine.rememberedFreeze = s.engine.rememberedFreeze ∧
    (s.loseEntry m a).engine.initPos = s.engine.initPos ∧ (s.loseEntry m a).sweeper = s.sweeper ∧
    (s.loseEntry m a).integrity.leakTimer = s.integrity.leakTimer ∧
    (s.loseEntry m a).integrity.scrubPosition = s.integrity.scrubPosition ∧
    (s.loseEntry m a).notices.repeatTimer = s.notices.repeatTimer ∧ (s.loseEntry m a).service = s.service ∧
    (s.loseEntry m a).resetCtl = s.resetCtl ∧ (s.loseEntry m a).freeCount = s.freeCount ∧
    (s.loseEntry m a).pending = s.pending := by
  unfold State.loseEntry
  try simp only
  repeat' split
  all_goals simp

@[simp] theorem loseEntry_ports (s : State) (m : Nat) (a : Association) (q : Port) :
    ((s.loseEntry m a).links.get q).state = (s.links.get q).state ∧
    ((s.loseEntry m a).links.get q).trainingLimit = (s.links.get q).trainingLimit ∧
    ((s.loseEntry m a).links.get q).requests = (s.links.get q).requests ∧
    ((s.loseEntry m a).links.get q).cache = (s.links.get q).cache ∧
    ((s.loseEntry m a).links.get q).sending = (s.links.get q).sending ∧
    ((s.loseEntry m a).sessions.get q).epoch = (s.sessions.get q).epoch ∧
    ((s.loseEntry m a).sessions.get q).lapseMark = (s.sessions.get q).lapseMark ∧
    ((s.loseEntry m a).sessions.get q).clearedSince = (s.sessions.get q).clearedSince := by
  unfold State.loseEntry
  try simp only
  repeat' split
  all_goals simp

@[simp] theorem loseFreeSlot_frame (s : State) (m : Nat) :
    (s.loseFreeSlot m).sessions = s.sessions ∧ (s.loseFreeSlot m).arbiter = s.arbiter ∧
    (s.loseFreeSlot m).journal.index = s.journal.index ∧ (s.loseFreeSlot m).journal.orphans = s.journal.orphans ∧
    (s.loseFreeSlot m).journal.stamp = s.journal.stamp ∧
    (s.loseFreeSlot m).journal.generation = s.journal.generation ∧
    (s.loseFreeSlot m).journal.compromised = s.journal.compromised ∧
    (s.loseFreeSlot m).engine.state = s.engine.state ∧
    (s.loseFreeSlot m).engine.rememberedFreeze = s.engine.rememberedFreeze ∧
    (s.loseFreeSlot m).engine.initPos = s.engine.initPos ∧ (s.loseFreeSlot m).sweeper = s.sweeper ∧
    (s.loseFreeSlot m).integrity.leakTimer = s.integrity.leakTimer ∧
    (s.loseFreeSlot m).integrity.scrubPosition = s.integrity.scrubPosition ∧
    (s.loseFreeSlot m).notices.repeatTimer = s.notices.repeatTimer ∧ (s.loseFreeSlot m).service = s.service ∧
    (s.loseFreeSlot m).resetCtl = s.resetCtl ∧ (s.loseFreeSlot m).freeCount = s.freeCount ∧
    (s.loseFreeSlot m).pending = s.pending := by
  unfold State.loseFreeSlot
  try simp only
  repeat' split
  all_goals simp

@[simp] theorem loseFreeSlot_ports (s : State) (m : Nat) (q : Port) :
    ((s.loseFreeSlot m).links.get q).state = (s.links.get q).state ∧
    ((s.loseFreeSlot m).links.get q).trainingLimit = (s.links.get q).trainingLimit ∧
    ((s.loseFreeSlot m).links.get q).requests = (s.links.get q).requests ∧
    ((s.loseFreeSlot m).links.get q).cache = (s.links.get q).cache ∧
    ((s.loseFreeSlot m).links.get q).sending = (s.links.get q).sending := by
  unfold State.loseFreeSlot
  try simp only
  repeat' split
  all_goals simp

@[simp] theorem damageEntry_frame (s : State) (m : Nat) (a : Association) :
    (s.damageEntry m a).arbiter = s.arbiter ∧ (s.damageEntry m a).journal.stamp = s.journal.stamp ∧
    (s.damageEntry m a).journal.generation = s.journal.generation ∧
    (s.damageEntry m a).journal.compromised = s.journal.compromised ∧
    (s.damageEntry m a).engine.state = s.engine.state ∧
    (s.damageEntry m a).engine.rememberedFreeze = s.engine.rememberedFreeze ∧
    (s.damageEntry m a).engine.initPos = s.engine.initPos ∧ (s.damageEntry m a).sweeper = s.sweeper ∧
    (s.damageEntry m a).integrity.leakTimer = s.integrity.leakTimer ∧
    (s.damageEntry m a).integrity.scrubPosition = s.integrity.scrubPosition ∧
    (s.damageEntry m a).notices.repeatTimer = s.notices.repeatTimer ∧ (s.damageEntry m a).service = s.service ∧
    (s.damageEntry m a).resetCtl = s.resetCtl ∧ (s.damageEntry m a).freeCount = s.freeCount ∧
    (s.damageEntry m a).pending = s.pending := by
  unfold State.damageEntry
  simp

@[simp] theorem damageEntry_ports (s : State) (m : Nat) (a : Association) (q : Port) :
    ((s.damageEntry m a).links.get q).state = (s.links.get q).state ∧
    ((s.damageEntry m a).links.get q).trainingLimit = (s.links.get q).trainingLimit ∧
    ((s.damageEntry m a).links.get q).requests = (s.links.get q).requests ∧
    ((s.damageEntry m a).links.get q).cache = (s.links.get q).cache ∧
    ((s.damageEntry m a).links.get q).sending = (s.links.get q).sending ∧
    ((s.damageEntry m a).sessions.get q).epoch = (s.sessions.get q).epoch ∧
    ((s.damageEntry m a).sessions.get q).lapseMark = (s.sessions.get q).lapseMark ∧
    ((s.damageEntry m a).sessions.get q).clearedSince = (s.sessions.get q).clearedSince := by
  unfold State.damageEntry
  simp

@[simp] theorem rewrite_frame (s : State) (m : Nat) :
    (s.rewrite m).links = s.links ∧ (s.rewrite m).sessions = s.sessions ∧ (s.rewrite m).arbiter = s.arbiter ∧
    (s.rewrite m).journal.index = s.journal.index ∧ (s.rewrite m).journal.pool = s.journal.pool ∧
    (s.rewrite m).journal.orphans = s.journal.orphans ∧ (s.rewrite m).journal.stamp = s.journal.stamp ∧
    (s.rewrite m).journal.generation = s.journal.generation ∧
    (s.rewrite m).journal.compromised = s.journal.compromised ∧ (s.rewrite m).engine = s.engine ∧
    (s.rewrite m).sweeper = s.sweeper ∧ (s.rewrite m).integrity = s.integrity ∧ (s.rewrite m).notices = s.notices ∧
    (s.rewrite m).service = s.service ∧ (s.rewrite m).faults = s.faults ∧ (s.rewrite m).resetCtl = s.resetCtl ∧
    (s.rewrite m).freeCount = s.freeCount ∧ (s.rewrite m).pending = s.pending := by
  unfold State.rewrite
  simp

@[simp] theorem actOnRead_frame (s : State) (m : Nat) (a : Option Association) (o : ReadOutcome) :
    (s.actOnRead m a o).arbiter.pointer = s.arbiter.pointer ∧ (s.actOnRead m a o).arbiter.scrubTimer = s.arbiter.scrubTimer ∧
    (s.actOnRead m a o).arbiter.scrubDue = s.arbiter.scrubDue ∧ (s.actOnRead m a o).arbiter.lastWasScrub = s.arbiter.lastWasScrub ∧
    (s.actOnRead m a o).journal.stamp = s.journal.stamp ∧
    (s.actOnRead m a o).journal.generation = s.journal.generation ∧
    (s.actOnRead m a o).engine.state = s.engine.state ∧
    (s.actOnRead m a o).engine.rememberedFreeze = s.engine.rememberedFreeze ∧
    (s.actOnRead m a o).engine.initPos = s.engine.initPos ∧ (s.actOnRead m a o).sweeper = s.sweeper ∧
    (s.actOnRead m a o).integrity.leakTimer = s.integrity.leakTimer ∧
    (s.actOnRead m a o).integrity.scrubPosition = s.integrity.scrubPosition ∧
    (s.actOnRead m a o).notices.repeatTimer = s.notices.repeatTimer ∧ (s.actOnRead m a o).service = s.service ∧
    (s.actOnRead m a o).resetCtl = s.resetCtl ∧ (s.actOnRead m a o).freeCount = s.freeCount ∧
    (s.actOnRead m a o).pending = s.pending := by
  unfold State.actOnRead
  try simp only
  repeat' split
  all_goals simp

@[simp] theorem actOnRead_ports (s : State) (m : Nat) (a : Option Association) (o : ReadOutcome) (q : Port) :
    ((s.actOnRead m a o).links.get q).state = (s.links.get q).state ∧
    ((s.actOnRead m a o).links.get q).trainingLimit = (s.links.get q).trainingLimit ∧
    ((s.actOnRead m a o).links.get q).requests = (s.links.get q).requests ∧
    ((s.actOnRead m a o).links.get q).cache = (s.links.get q).cache ∧
    ((s.actOnRead m a o).links.get q).sending = (s.links.get q).sending ∧
    ((s.actOnRead m a o).sessions.get q).epoch = (s.sessions.get q).epoch ∧
    ((s.actOnRead m a o).sessions.get q).lapseMark = (s.sessions.get q).lapseMark ∧
    ((s.actOnRead m a o).sessions.get q).clearedSince = (s.sessions.get q).clearedSince := by
  unfold State.actOnRead
  try simp only
  repeat' split
  all_goals simp

@[simp] theorem convertOnTouch_frame (s : State) (m : Nat) :
    (s.convertOnTouch m).sessions = s.sessions ∧ (s.convertOnTouch m).arbiter = s.arbiter ∧
    (s.convertOnTouch m).journal.pool = s.journal.pool ∧ (s.convertOnTouch m).journal.stamp = s.journal.stamp ∧
    (s.convertOnTouch m).journal.generation = s.journal.generation ∧
    (s.convertOnTouch m).journal.compromised = s.journal.compromised ∧ (s.convertOnTouch m).engine = s.engine ∧
    (s.convertOnTouch m).sweeper = s.sweeper ∧ (s.convertOnTouch m).integrity = s.integrity ∧
    (s.convertOnTouch m).notices.repeatTimer = s.notices.repeatTimer ∧ (s.convertOnTouch m).service = s.service ∧
    (s.convertOnTouch m).faults = s.faults ∧ (s.convertOnTouch m).resetCtl = s.resetCtl ∧
    (s.convertOnTouch m).freeCount = s.freeCount ∧ (s.convertOnTouch m).pending = s.pending := by
  unfold State.convertOnTouch
  try simp only
  repeat' split
  all_goals simp

@[simp] theorem convertOnTouch_ports (s : State) (m : Nat) (q : Port) :
    ((s.convertOnTouch m).links.get q).state = (s.links.get q).state ∧
    ((s.convertOnTouch m).links.get q).trainingLimit = (s.links.get q).trainingLimit ∧
    ((s.convertOnTouch m).links.get q).requests = (s.links.get q).requests ∧
    ((s.convertOnTouch m).links.get q).cache = (s.links.get q).cache ∧
    ((s.convertOnTouch m).links.get q).sending = (s.links.get q).sending := by
  unfold State.convertOnTouch
  try simp only
  repeat' split
  all_goals simp

@[simp] theorem readRaw_frame (s : State) (m : Nat) (w : SlotWear) :
    (s.readRaw m w).arbiter.pointer = s.arbiter.pointer ∧ (s.readRaw m w).arbiter.scrubTimer = s.arbiter.scrubTimer ∧
    (s.readRaw m w).arbiter.scrubDue = s.arbiter.scrubDue ∧ (s.readRaw m w).arbiter.lastWasScrub = s.arbiter.lastWasScrub ∧
    (s.readRaw m w).journal.stamp = s.journal.stamp ∧
    (s.readRaw m w).journal.generation = s.journal.generation ∧ (s.readRaw m w).engine.state = s.engine.state ∧
    (s.readRaw m w).engine.rememberedFreeze = s.engine.rememberedFreeze ∧
    (s.readRaw m w).engine.initPos = s.engine.initPos ∧ (s.readRaw m w).sweeper = s.sweeper ∧
    (s.readRaw m w).integrity.leakTimer = s.integrity.leakTimer ∧
    (s.readRaw m w).integrity.scrubPosition = s.integrity.scrubPosition ∧
    (s.readRaw m w).notices.repeatTimer = s.notices.repeatTimer ∧ (s.readRaw m w).service = s.service ∧
    (s.readRaw m w).resetCtl = s.resetCtl ∧ (s.readRaw m w).freeCount = s.freeCount ∧
    (s.readRaw m w).pending = s.pending := by
  unfold State.readRaw
  try simp only
  repeat' split
  all_goals simp

@[simp] theorem readRaw_ports (s : State) (m : Nat) (w : SlotWear) (q : Port) :
    ((s.readRaw m w).links.get q).state = (s.links.get q).state ∧
    ((s.readRaw m w).links.get q).trainingLimit = (s.links.get q).trainingLimit ∧
    ((s.readRaw m w).links.get q).requests = (s.links.get q).requests ∧
    ((s.readRaw m w).links.get q).cache = (s.links.get q).cache ∧
    ((s.readRaw m w).links.get q).sending = (s.links.get q).sending ∧
    ((s.readRaw m w).sessions.get q).epoch = (s.sessions.get q).epoch ∧
    ((s.readRaw m w).sessions.get q).lapseMark = (s.sessions.get q).lapseMark ∧
    ((s.readRaw m w).sessions.get q).clearedSince = (s.sessions.get q).clearedSince := by
  unfold State.readRaw
  try simp only
  repeat' split
  all_goals simp

@[simp] theorem readSlot_frame (s : State) (m : Nat) (w : SlotWear) :
    (s.readSlot m w).arbiter.pointer = s.arbiter.pointer ∧ (s.readSlot m w).arbiter.scrubTimer = s.arbiter.scrubTimer ∧
    (s.readSlot m w).arbiter.scrubDue = s.arbiter.scrubDue ∧ (s.readSlot m w).arbiter.lastWasScrub = s.arbiter.lastWasScrub ∧
    (s.readSlot m w).journal.stamp = s.journal.stamp ∧
    (s.readSlot m w).journal.generation = s.journal.generation ∧ (s.readSlot m w).engine.state = s.engine.state ∧
    (s.readSlot m w).engine.rememberedFreeze = s.engine.rememberedFreeze ∧
    (s.readSlot m w).engine.initPos = s.engine.initPos ∧ (s.readSlot m w).sweeper = s.sweeper ∧
    (s.readSlot m w).integrity.leakTimer = s.integrity.leakTimer ∧
    (s.readSlot m w).integrity.scrubPosition = s.integrity.scrubPosition ∧
    (s.readSlot m w).notices.repeatTimer = s.notices.repeatTimer ∧ (s.readSlot m w).service = s.service ∧
    (s.readSlot m w).resetCtl = s.resetCtl ∧ (s.readSlot m w).freeCount = s.freeCount ∧
    (s.readSlot m w).pending = s.pending := by
  unfold State.readSlot
  simp

@[simp] theorem readSlot_ports (s : State) (m : Nat) (w : SlotWear) (q : Port) :
    ((s.readSlot m w).links.get q).state = (s.links.get q).state ∧
    ((s.readSlot m w).links.get q).trainingLimit = (s.links.get q).trainingLimit ∧
    ((s.readSlot m w).links.get q).requests = (s.links.get q).requests ∧
    ((s.readSlot m w).links.get q).cache = (s.links.get q).cache ∧
    ((s.readSlot m w).links.get q).sending = (s.links.get q).sending ∧
    ((s.readSlot m w).sessions.get q).epoch = (s.sessions.get q).epoch ∧
    ((s.readSlot m w).sessions.get q).lapseMark = (s.sessions.get q).lapseMark ∧
    ((s.readSlot m w).sessions.get q).clearedSince = (s.sessions.get q).clearedSince := by
  unfold State.readSlot
  simp

/-! Grants and service transactions -/

@[simp] theorem beginGrant_frame (s : State) (pl : Place) :
    (s.beginGrant pl).sessions = s.sessions ∧ (s.beginGrant pl).arbiter.scrubTimer = s.arbiter.scrubTimer ∧
    (s.beginGrant pl).arbiter.scrubDue = s.arbiter.scrubDue ∧ (s.beginGrant pl).journal.store = s.journal.store ∧
    (s.beginGrant pl).journal.index = s.journal.index ∧ (s.beginGrant pl).journal.orphans = s.journal.orphans ∧
    (s.beginGrant pl).journal.stamp = s.journal.stamp ∧ (s.beginGrant pl).journal.generation = s.journal.generation ∧
    (s.beginGrant pl).journal.compromised = s.journal.compromised ∧ (s.beginGrant pl).engine.state = s.engine.state ∧
    (s.beginGrant pl).engine.rememberedFreeze = s.engine.rememberedFreeze ∧
    (s.beginGrant pl).engine.initPos = s.engine.initPos ∧ (s.beginGrant pl).sweeper = s.sweeper ∧
    (s.beginGrant pl).integrity.leakTimer = s.integrity.leakTimer ∧
    (s.beginGrant pl).integrity.scrubPosition = s.integrity.scrubPosition ∧
    (s.beginGrant pl).notices.repeatTimer = s.notices.repeatTimer ∧ (s.beginGrant pl).service = s.service ∧
    (s.beginGrant pl).faults = s.faults ∧ (s.beginGrant pl).resetCtl = s.resetCtl ∧
    (s.beginGrant pl).freeCount = s.freeCount ∧ (s.beginGrant pl).pending = s.pending := by
  unfold State.beginGrant
  simp

@[simp] theorem beginGrant_ports (s : State) (pl : Place) (q : Port) :
    ((s.beginGrant pl).links.get q).state = (s.links.get q).state ∧
    ((s.beginGrant pl).links.get q).trainingLimit = (s.links.get q).trainingLimit ∧
    ((s.beginGrant pl).links.get q).requests = (s.links.get q).requests ∧
    ((s.beginGrant pl).links.get q).cache = (s.links.get q).cache ∧
    ((s.beginGrant pl).links.get q).sending = (s.links.get q).sending := by
  unfold State.beginGrant
  simp

@[simp] theorem beginScrub_frame (s : State) :
    (s.beginScrub).sessions = s.sessions ∧ (s.beginScrub).arbiter.pointer = s.arbiter.pointer ∧
    (s.beginScrub).journal.store = s.journal.store ∧ (s.beginScrub).journal.index = s.journal.index ∧
    (s.beginScrub).journal.orphans = s.journal.orphans ∧ (s.beginScrub).journal.stamp = s.journal.stamp ∧
    (s.beginScrub).journal.generation = s.journal.generation ∧
    (s.beginScrub).journal.compromised = s.journal.compromised ∧ (s.beginScrub).engine.state = s.engine.state ∧
    (s.beginScrub).engine.rememberedFreeze = s.engine.rememberedFreeze ∧
    (s.beginScrub).engine.initPos = s.engine.initPos ∧ (s.beginScrub).sweeper = s.sweeper ∧
    (s.beginScrub).integrity.leakTimer = s.integrity.leakTimer ∧
    (s.beginScrub).integrity.scrubPosition = s.integrity.scrubPosition ∧
    (s.beginScrub).notices.repeatTimer = s.notices.repeatTimer ∧ (s.beginScrub).service = s.service ∧
    (s.beginScrub).faults = s.faults ∧ (s.beginScrub).resetCtl = s.resetCtl ∧
    (s.beginScrub).freeCount = s.freeCount ∧ (s.beginScrub).pending = s.pending := by
  unfold State.beginScrub
  repeat' split
  all_goals simp

@[simp] theorem beginScrub_ports (s : State) (q : Port) :
    ((s.beginScrub).links.get q).state = (s.links.get q).state ∧
    ((s.beginScrub).links.get q).trainingLimit = (s.links.get q).trainingLimit ∧
    ((s.beginScrub).links.get q).requests = (s.links.get q).requests ∧
    ((s.beginScrub).links.get q).cache = (s.links.get q).cache ∧
    ((s.beginScrub).links.get q).sending = (s.links.get q).sending := by
  unfold State.beginScrub
  repeat' split
  all_goals simp

@[simp] theorem complete_frame (s : State) (r : ServiceResult) :
    (s.complete r).links = s.links ∧ (s.complete r).sessions = s.sessions ∧ (s.complete r).arbiter = s.arbiter ∧
    (s.complete r).journal = s.journal ∧ (s.complete r).engine = s.engine ∧ (s.complete r).sweeper = s.sweeper ∧
    (s.complete r).integrity = s.integrity ∧ (s.complete r).notices = s.notices ∧ (s.complete r).faults = s.faults ∧
    (s.complete r).resetCtl = s.resetCtl ∧ (s.complete r).freeCount = s.freeCount ∧
    (s.complete r).pending = s.pending := by
  unfold State.complete
  simp

@[simp] theorem stopWrite_frame (s : State) :
    (s.stopWrite).links = s.links ∧ (s.stopWrite).sessions = s.sessions ∧ (s.stopWrite).arbiter = s.arbiter ∧
    (s.stopWrite).journal = s.journal ∧ (s.stopWrite).engine = s.engine ∧ (s.stopWrite).sweeper = s.sweeper ∧
    (s.stopWrite).integrity = s.integrity ∧ (s.stopWrite).notices = s.notices ∧ (s.stopWrite).faults = s.faults ∧
    (s.stopWrite).resetCtl = s.resetCtl ∧ (s.stopWrite).freeCount = s.freeCount ∧
    (s.stopWrite).pending = s.pending := by
  unfold State.stopWrite
  simp only
  repeat' split
  all_goals simp

end Sys2Proof.Machine
end

