-- ==== Sys2Proof/Laws/Held.lean ====
section
/-! SUPPORT. While the raises of a grant wait for its reply (R135), nothing is sent and no flag moves: each shared operation keeps
links, flags and serials, and the raises go on waiting. -/

namespace Sys2Proof.Machine

/-- `t` has sent nothing and set no flag since `s`, and its raises wait. -/
def Quiet (s t : State) : Prop :=
  t.links = s.links ∧ t.notices.flags = s.notices.flags ∧ t.notices.serials = s.notices.serials ∧
  t.notices.repeatTimer = s.notices.repeatTimer ∧ t.notices.held.isSome = true

theorem Quiet.refl {s : State} (h : s.notices.held.isSome = true) : Quiet s s := ⟨rfl, rfl, rfl, rfl, h⟩

theorem Quiet.trans {s t u : State} (h : Quiet s t) (h' : Quiet t u) : Quiet s u :=
  ⟨h'.1.trans h.1, h'.2.1.trans h.2.1, h'.2.2.1.trans h.2.2.1, h'.2.2.2.1.trans h.2.2.2.1, h'.2.2.2.2⟩

theorem quiet_raise {s : State} (p : Port) (k : NoticeKind) (w : Option Word) (h : s.notices.held.isSome = true) :
    Quiet s (s.raise p k w) := by
  obtain ⟨l, hl⟩ := Option.isSome_iff_exists.1 h
  simp only [State.raise, hl]
  split
  · exact ⟨rfl, rfl, rfl, rfl, rfl⟩
  · exact Quiet.refl h

theorem quiet_raiseBoth {s : State} (k : NoticeKind) (w : Option Word) (h : s.notices.held.isSome = true) : Quiet s (s.raiseBoth k w) := by
  have h1 := quiet_raise .a k w h
  exact h1.trans (quiet_raise .b k w h1.2.2.2.2)

theorem quiet_lowWaterTest {s : State} (h : s.notices.held.isSome = true) : Quiet s (s.lowWaterTest) := by
  unfold State.lowWaterTest
  split
  · exact Quiet.trans (t := s.setEngine { s.engine with armed := false }) ⟨rfl, rfl, rfl, rfl, h⟩ (quiet_raiseBoth _ _ h)
  · exact Quiet.refl h

theorem quiet_retire {s : State} (b : Nat) (h : s.notices.held.isSome = true) : Quiet s (s.retire b) := by
  unfold State.retire
  exact Quiet.trans (t := (s.setBlockState b .retired).setIntegrity { (s.setBlockState b .retired).integrity with reserve := 0 })
    ⟨rfl, rfl, rfl, rfl, h⟩ (quiet_raiseBoth _ _ h)

theorem quiet_testProgress {s : State} (h : s.notices.held.isSome = true) : Quiet s (s.testProgress) := by
  unfold State.testProgress
  split
  · split
    · split
      · exact quiet_retire _ h
      · exact ⟨rfl, rfl, rfl, rfl, h⟩
    · exact Quiet.refl h
  · exact Quiet.refl h

theorem quiet_enterClosing {s : State} (b : Nat) (rest : List Nat) (h : s.notices.held.isSome = true) : Quiet s (s.enterClosing b rest) := by
  unfold State.enterClosing
  dsimp only
  split
  · have h1 := quiet_lowWaterTest (s := ((s.setIntegrity { s.integrity with retireQueue := rest }).setBlockState b .closing).setJournal
      { ((s.setIntegrity { s.integrity with retireQueue := rest }).setBlockState b .closing).journal with
        pool := ((s.setIntegrity { s.integrity with retireQueue := rest }).setBlockState b .closing).journal.pool.filter
          fun n => blockOf n ≠ b }) h
    exact ⟨h1.1, h1.2.1, h1.2.2.1, h1.2.2.2.1, h1.2.2.2.2⟩
  · exact ⟨rfl, rfl, rfl, rfl, h⟩

theorem quiet_settleWithin (fuel : Nat) {s : State} (h : s.notices.held.isSome = true) : Quiet s (State.settleWithin fuel s) := by
  induction fuel generalizing s with
  | zero => exact quiet_testProgress h
  | succ fuel ih =>
    have h1 := quiet_testProgress h
    simp only [State.settleWithin]
    split
    · split
      · next b rest _ =>
        have h2 := quiet_enterClosing b rest h1.2.2.2.2
        exact (h1.trans h2).trans (ih h2.2.2.2.2)
      · exact h1
    · exact h1

theorem quiet_settle {s : State} (h : s.notices.held.isSome = true) : Quiet s (s.settle) := by
  exact quiet_settleWithin _ h

theorem quiet_enterIfDue {s : State} (h : s.notices.held.isSome = true) : Quiet s (s.enterIfDue) := by
  unfold State.enterIfDue
  split
  · exact quiet_settle h
  · exact Quiet.refl h

theorem quiet_beginGrant {s : State} (pl : Place) (h : s.notices.held.isSome = true) : Quiet s (s.beginGrant pl) := by
  have h1 := quiet_enterIfDue (s := s.setArbiter { s.arbiter with pointer := pl, lastWasScrub := false }) h
  exact ⟨h1.1, h1.2.1, h1.2.2.1, h1.2.2.2.1, h1.2.2.2.2⟩

theorem quiet_capture {s : State} (f : FaultRecord) (h : s.notices.held.isSome = true) : Quiet s (s.capture f) := by
  simp [Quiet, h]

theorem quiet_detachGracefully {s : State} (p : Port) (h : s.notices.held.isSome = true) : Quiet s (s.detachGracefully p) := by
  unfold State.detachGracefully
  exact Quiet.trans (t := s.setSession p ((s.session p).closeTo .detached)) ⟨rfl, rfl, rfl, rfl, h⟩ (quiet_raise _ _ _ h)

theorem quiet_testDrain {s : State} (p : Port) (h : s.notices.held.isSome = true) : Quiet s (s.testDrain p) := by
  unfold State.testDrain
  split
  · exact quiet_detachGracefully p h
  · exact Quiet.refl h

theorem quiet_lowerHoldings {s : State} (p : Port) (h : s.notices.held.isSome = true) : Quiet s (s.lowerHoldings p) := by
  unfold State.lowerHoldings
  exact Quiet.trans (t := s.setSession p { s.session p with holdings := (s.session p).holdings - 1 }) ⟨rfl, rfl, rfl, rfl, h⟩
    (quiet_testDrain p h)

theorem quiet_lowerAdoptions {s : State} (p : Port) (h : s.notices.held.isSome = true) : Quiet s (s.lowerAdoptions p) := by
  unfold State.lowerAdoptions
  exact Quiet.trans (t := s.setSession p { s.session p with adoptions := (s.session p).adoptions - 1 }) ⟨rfl, rfl, rfl, rfl, h⟩
    (quiet_testDrain p h)

theorem quiet_lowerHolders {s : State} (x : HolderSummary) (h : s.notices.held.isSome = true) : Quiet s (s.lowerHolders x) := by
  have h1 : Quiet s (if s.summaryLive .a x.holdA then s.lowerHoldings .a else s) := by
    split
    · exact quiet_lowerHoldings .a h
    · exact Quiet.refl h
  have h2 : Quiet s (if s.summaryLive .b x.holdB then
      (if s.summaryLive .a x.holdA then s.lowerHoldings .a else s).lowerHoldings .b
      else (if s.summaryLive .a x.holdA then s.lowerHoldings .a else s)) := by
    split
    · exact h1.trans (quiet_lowerHoldings .b h1.2.2.2.2)
    · exact h1
  unfold State.lowerHolders
  dsimp only
  split
  · split
    · exact h2.trans (quiet_lowerAdoptions _ h2.2.2.2.2)
    · exact h2
  · exact h2

theorem quiet_bodyWrite {s : State} (n : Nat) (e : EntryBody) (h : s.notices.held.isSome = true) : Quiet s (s.bodyWrite n e) := by
  simp [Quiet, h]

theorem quiet_joinOrphans {s : State} (k : RegionKey) (x : Stamp) (h : s.notices.held.isSome = true) : Quiet s (s.joinOrphans k x) := by
  unfold State.joinOrphans
  dsimp only
  split
  · have h1 := quiet_raiseBoth (s := (s.dropOrphan k).setJournal
      { (s.dropOrphan k).journal with orphans := insertOrphan ⟨k, x⟩ (s.dropOrphan k).journal.orphans }) .orphansPresent
      (some (wordOf ((s.dropOrphan k).setJournal
        { (s.dropOrphan k).journal with orphans := insertOrphan ⟨k, x⟩ (s.dropOrphan k).journal.orphans }).orphanCount)) h
    exact ⟨h1.1, h1.2.1, h1.2.2.1, h1.2.2.2.1, h1.2.2.2.2⟩
  · exact ⟨rfl, rfl, rfl, rfl, h⟩

end Sys2Proof.Machine
end

