-- ==== Sys2Proof/Laws/Grants.lean ====
section
/-! SUPPORT. What a granted request and a service request taken at once come to, so that no proof about one of them unfolds the
grant or the write around it. -/

namespace Sys2Proof.Machine

/-- The start of a grant keeps the session records. -/
@[simp] theorem grantStart_frame (s : State) (p : Port) :
    (s.grantStart p).sessions = s.sessions ∧ (s.grantStart p).journal.store = s.journal.store ∧
    (s.grantStart p).journal.index = s.journal.index ∧ (s.grantStart p).journal.orphans = s.journal.orphans ∧
    (s.grantStart p).journal.stamp = s.journal.stamp ∧ (s.grantStart p).journal.generation = s.journal.generation ∧
    (s.grantStart p).journal.compromised = s.journal.compromised ∧
    (s.grantStart p).engine.state = s.engine.state ∧ (s.grantStart p).sweeper = s.sweeper ∧
    (s.grantStart p).service = s.service ∧ (s.grantStart p).faults = s.faults ∧
    (s.grantStart p).resetCtl = s.resetCtl ∧ (s.grantStart p).freeCount = s.freeCount ∧
    (s.grantStart p).pending = s.pending := by
  simp [State.grantStart]

/-- The start of a grant sends nothing and moves no flag. -/
@[simp] theorem grantStart_quiet (s : State) (p : Port) :
    (s.grantStart p).links = s.links ∧ (s.grantStart p).notices.flags = s.notices.flags ∧
    (s.grantStart p).notices.serials = s.notices.serials ∧
    (s.grantStart p).notices.repeatTimer = s.notices.repeatTimer ∧ (s.grantStart p).notices.held.isSome = true := by
  have h := quiet_beginGrant (s := s.holdNotices) (portPlace p) rfl
  exact ⟨h.1, h.2.1, h.2.2.1, h.2.2.2.1, h.2.2.2.2⟩

/-- With no block due to enter CLOSING, a grant begins with the pointer's move alone. -/
theorem beginGrant_of_not_due (s : State) (pl : Place) (h : s.closingDue = false) :
    s.beginGrant pl = s.setArbiter { s.arbiter with pointer := pl, lastWasScrub := false } := by
  have h' : (s.setArbiter { s.arbiter with pointer := pl, lastWasScrub := false }).closingDue = false := h
  simp [State.beginGrant, State.enterIfDue, h']

theorem grantStart_of_not_due (s : State) (p : Port) (h : s.closingDue = false) :
    s.grantStart p = { s with
      arbiter := { s.arbiter with pointer := portPlace p, lastWasScrub := false }
      notices := { s.notices with held := some [] } } := by
  have h' : s.holdNotices.closingDue = false := h
  rw [State.grantStart, beginGrant_of_not_due _ _ h']
  rfl

/-- A granted request: its grant begins, it runs, it is answered. -/
theorem serve_eq (s : State) (p : Port) (r : Request) (run : State → Answer × State) :
    s.serve p r run = (run (s.grantStart p)).2.answered p r (run (s.grantStart p)).1 := rfl

/-- A granted request that passes the checks of R134. -/
theorem serveChecked_of_executes {s : State} {p : Port} {r : Request} {k : PeerRequest} (h : Executes s p r k)
    (run : State → Answer × State) :
    s.serveChecked p r run = (run (s.grantStart p)).2.answered p r (run (s.grantStart p)).1 := by
  obtain ⟨_, h1, h2, h3⟩ := h
  have : (s.grantStart p).sessionCheck p r.epoch = none := by
    simp only [isOpen_eq, session_eq] at h2 h3
    simp only [State.sessionCheck, grantStart_frame, h1, session_eq, if_false]
    cases hs : (s.sessions.get p).state <;> simp_all [SessionState.isOpen]
  simp only [State.serveChecked, serve_eq, this]

/-- A granted request that a check of R134 refuses. -/
theorem serveChecked_of_refused {s : State} {p : Port} {r : Request} {refusal : ReplyStatus}
    (h : s.sessionCheck p r.epoch = some refusal) (run : State → Answer × State) :
    s.serveChecked p r run = (s.grantStart p).answered p r { status := refusal } := by
  have : (s.grantStart p).sessionCheck p r.epoch = some refusal := by
    have e1 : (s.grantStart p).engine.state = s.engine.state := by simp
    have e2 : (s.grantStart p).session p = s.session p := by simp
    rw [← h]
    unfold State.sessionCheck
    rw [e1, e2]
  simp only [State.serveChecked, serve_eq, this]

/-- The data bytes of a write, one after the other: the first 16 are collected, a 17th makes the collection overlong (R175). -/
theorem busBytes_eq (bytes : List Byte) (s : State) (h : s.service.target = .receiving)
    (hc : s.service.collection.length ≤ Config.collectionMax) :
    bytes.foldl (fun t b => (t.busByte b).2) s = s.setService { s.service with
      collection := (s.service.collection ++ bytes).take Config.collectionMax
      overlong := s.service.overlong || decide (Config.collectionMax < s.service.collection.length + bytes.length) } := by
  induction bytes generalizing s with
  | nil =>
    have : ¬(Config.collectionMax < s.service.collection.length) := Nat.not_lt.2 hc
    simp [List.take_of_length_le hc, this, State.setService]
  | cons b rest ih =>
    by_cases hlt : s.service.collection.length < Config.collectionMax
    · have h1 : (s.busByte b).2 = s.setService { s.service with collection := s.service.collection ++ [b] } := by
        simp [State.busByte, h, hlt]
      rw [List.foldl_cons, h1, ih _ (by simpa using h) (by simpa using Nat.succ_le_of_lt hlt)]
      simp [Nat.add_assoc, Nat.add_comm 1, State.setService]
    · have h2 : s.service.collection.length = Config.collectionMax := Nat.le_antisymm hc (Nat.not_lt.1 hlt)
      have h1 : (s.busByte b).2 = s.setService { s.service with overlong := true } := by simp [State.busByte, h, hlt]
      rw [List.foldl_cons, h1, ih _ (by simpa using h) (by simpa using hc)]
      simp [h2, State.setService]

/-- A write transaction to a port that is not BUSY, up to its STOP (R174, R175). -/
theorem receiveWrite_eq {s : State} (bytes : List Byte) (h : s.service.target ≠ .busy) :
    s.receiveWrite bytes = some (s.setService { s.service with
      target := .receiving, collection := bytes.take Config.collectionMax
      overlong := decide (Config.collectionMax < bytes.length), sent := 0 }) := by
  simp only [State.receiveWrite, State.busStart, h, if_false, if_true]
  rw [busBytes_eq _ _ rfl (Nat.zero_le _)]
  simp [State.setService]

/-- A complete write to a port that is not BUSY (R175, R176). -/
theorem write_eq {s : State} (bytes : List Byte) (h : s.service.target ≠ .busy) :
    s.write bytes = some (s.setService { s.service with
      target := .receiving, collection := bytes.take Config.collectionMax
      overlong := decide (Config.collectionMax < bytes.length), sent := 0 }).stopWrite := by
  simp [State.write, receiveWrite_eq bytes h, State.busStop]

/-- A well-formed write of a request, the port not BUSY, is accepted. -/
theorem write_of_accepted {s : State} {code : Byte} {params : List Byte} (h : s.service.target ≠ .busy)
    (hl : params.length ≤ 14) (hc : paramLength code = some params.length) :
    s.write (requestBytes code params) = some { s with service := { s.service with
      target := .busy, collection := [], overlong := false, sent := 0, result := none } } := by
  have h1 : ¬(Config.collectionMax < (requestBytes code params).length) := by
    simp only [requestBytes, List.length_cons, Config.collectionMax]
    omega
  have h2 : (requestBytes code params).take Config.collectionMax = requestBytes code params :=
    List.take_of_length_le (by simp only [requestBytes, List.length_cons, Config.collectionMax]; omega)
  have h3 : (BitVec.ofNat 8 params.length).toNat = params.length := by
    simp only [BitVec.toNat_ofNat]
    omega
  simp only [write_eq _ h, State.stopWrite, State.setService, h1, h2]
  simp [requestBytes, judgeWrite, h3, hc]

/-- A write to a BUSY port is not acknowledged. -/
theorem write_of_busy {s : State} (bytes : List Byte) (h : s.service.target = .busy) : s.write bytes = none := by
  simp [State.write, State.receiveWrite, State.busStart, h]

/-- A service request taken at once, the port not BUSY. -/
theorem serviceEvent_of_accepted {s : State} {code : Byte} {params : List Byte} (h : s.service.target ≠ .busy)
    (hl : params.length ≤ 14) (hc : paramLength code = some params.length) (run : State → ServiceResult × State) :
    s.serviceEvent code params run =
      let out := run { s with service := { s.service with target := .busy, collection := [], overlong := false, sent := 0, result := none } }
      out.2.complete out.1 := by
  simp [State.serviceEvent, write_of_accepted h hl hc]

/-- A service request to a BUSY port is not acknowledged. -/
theorem serviceEvent_of_busy {s : State} (code : Byte) (params : List Byte) (h : s.service.target = .busy)
    (run : State → ServiceResult × State) : s.serviceEvent code params run = s := by
  simp [State.serviceEvent, write_of_busy _ h]

end Sys2Proof.Machine
end

