-- ==== Sys2Proof/WellFormed.lean ====
section
/-! DEFINITION. What a command must be to stand for an event of its row. A command that is not so changes nothing the spec
does not change; the check says which terms are meaningful. -/

namespace Sys2Proof

open Machine

/-- The bytes of a service write that its row UNKNOWN covers: at least one, and malformed, of unknown code, or a WARM_RESET
with an option other than KEEP and CLEAR (R176, R184). -/
def unknownWrite (bytes : List Byte) : Bool :=
  match judgeWrite (bytes.take Config.collectionMax) (decide (Config.collectionMax < bytes.length)) with
  | .ignored => false
  | .badFormat => true
  | .unknown => true
  | .accepted =>
    match bytes with
    | [code, _, option] => decide (code = 0x31) && decide (option ≠ 1) && decide (option ≠ 2)
    | _ => false

/-- One ADOPT grant reads no slot twice, so it has at most 1024 storage outcomes (R89); a whole frame has at least one word
(R103); a write of the row UNKNOWN is one that the row covers. -/
def Instr.wellFormed : Instr → Bool
  | .adopt _ wears => decide (wears.length ≤ Config.slotCount)
  | .requestFrame _ words => !words.isEmpty
  | .unknown bytes => unknownWrite bytes
  | .powerOnReset _ => true
  | .warmPin _ => true
  | .warmResetKeep _ => true
  | .warmResetClear _ => true
  | .signalDetect _ => true
  | .trainingCompletes _ => true
  | .trainingLimitExpiry _ => true
  | .lossOfLock _ => true
  | .frameTransmit _ => true
  | .badRequest _ => true
  | .attach _ => true
  | .detachGraceful _ => true
  | .detachAbrupt _ => true
  | .pulse _ => true
  | .openIntent _ _ => true
  | .closeIntent _ _ => true
  | .query _ _ => true
  | .resolve _ _ => true
  | .clearMark _ => true
  | .fencePeer _ => true
  | .ackNotice _ => true
  | .status _ => true
  | .lapseTimerExpiry _ => true
  | .drainTimerExpiry _ => true
  | .repeatTimerExpiry => true
  | .leakTimerExpiry => true
  | .scrubPaceExpiry => true
  | .scrubRead _ => true
  | .sweepStep _ => true
  | .sweepAdvance => true
  | .relocationMove _ => true
  | .initialiserWrite => true
  | .initialiserAdvance => true
  | .getSetting _ => true
  | .setSetting _ _ => true
  | .readView _ => true
  | .readSlot _ => true
  | .identify => true
  | .fence _ => true
  | .unfence _ => true
  | .serviceClearMark _ => true
  | .freeze => true
  | .thaw => true
  | .retireBlock => true
  | .clearFaults _ => true
  | .serviceRequestAccepted _ => true

end Sys2Proof
end

