-- ==== Sys2Proof/Laws/PerInstr.lean ====
section
/-! SUPPORT. A law of every command as syntax: a well-formed command that arrives as a write of the service port brings at least
one byte, and, unless its row is UNKNOWN, a write that the port accepts. -/

open Sys2Proof Sys2Proof.Machine

namespace Sys2Proof.Laws.ServiceWrite

/-- The write that brings the command, if one does, is not empty; and it is accepted if the command is not the row UNKNOWN. -/
def Statement (i : Instr) : Prop :=
  i.wellFormed = true → ∀ bytes, writeOf i = some bytes →
    bytes ≠ [] ∧ ((∀ b, i ≠ .unknown b) → judgeWrite bytes false = .accepted)

theorem powerOnReset (pins : BitVec 2) : Statement (.powerOnReset pins) := by
  intro _ b hb
  exact absurd (show (none : Option (List Byte)) = some b from hb) nofun

theorem warmPin (pins : BitVec 2) : Statement (.warmPin pins) := by
  intro _ b hb
  exact absurd (show (none : Option (List Byte)) = some b from hb) nofun

theorem warmResetKeep (pins : BitVec 2) : Statement (.warmResetKeep pins) := by
  intro _ b hb
  obtain rfl := Option.some.inj hb
  exact ⟨nofun, fun _ => rfl⟩

theorem warmResetClear (pins : BitVec 2) : Statement (.warmResetClear pins) := by
  intro _ b hb
  obtain rfl := Option.some.inj hb
  exact ⟨nofun, fun _ => rfl⟩

theorem signalDetect (port : Port) : Statement (.signalDetect port) := by
  intro _ b hb
  exact absurd (show (none : Option (List Byte)) = some b from hb) nofun

theorem trainingCompletes (port : Port) : Statement (.trainingCompletes port) := by
  intro _ b hb
  exact absurd (show (none : Option (List Byte)) = some b from hb) nofun

theorem trainingLimitExpiry (port : Port) : Statement (.trainingLimitExpiry port) := by
  intro _ b hb
  exact absurd (show (none : Option (List Byte)) = some b from hb) nofun

theorem lossOfLock (port : Port) : Statement (.lossOfLock port) := by
  intro _ b hb
  exact absurd (show (none : Option (List Byte)) = some b from hb) nofun

theorem requestFrame (port : Port) (words : List Word) : Statement (.requestFrame port words) := by
  intro _ b hb
  exact absurd (show (none : Option (List Byte)) = some b from hb) nofun

theorem frameTransmit (port : Port) : Statement (.frameTransmit port) := by
  intro _ b hb
  exact absurd (show (none : Option (List Byte)) = some b from hb) nofun

theorem badRequest (port : Port) : Statement (.badRequest port) := by
  intro _ b hb
  exact absurd (show (none : Option (List Byte)) = some b from hb) nofun

theorem attach (port : Port) : Statement (.attach port) := by
  intro _ b hb
  exact absurd (show (none : Option (List Byte)) = some b from hb) nofun

theorem detachGraceful (port : Port) : Statement (.detachGraceful port) := by
  intro _ b hb
  exact absurd (show (none : Option (List Byte)) = some b from hb) nofun

theorem detachAbrupt (port : Port) : Statement (.detachAbrupt port) := by
  intro _ b hb
  exact absurd (show (none : Option (List Byte)) = some b from hb) nofun

theorem pulse (port : Port) : Statement (.pulse port) := by
  intro _ b hb
  exact absurd (show (none : Option (List Byte)) = some b from hb) nofun

theorem openIntent (port : Port) (wear : SlotWear) : Statement (.openIntent port wear) := by
  intro _ b hb
  exact absurd (show (none : Option (List Byte)) = some b from hb) nofun

theorem closeIntent (port : Port) (wear : SlotWear) : Statement (.closeIntent port wear) := by
  intro _ b hb
  exact absurd (show (none : Option (List Byte)) = some b from hb) nofun

theorem query (port : Port) (wear : SlotWear) : Statement (.query port wear) := by
  intro _ b hb
  exact absurd (show (none : Option (List Byte)) = some b from hb) nofun

theorem adopt (port : Port) (wears : List SlotWear) : Statement (.adopt port wears) := by
  intro _ b hb
  exact absurd (show (none : Option (List Byte)) = some b from hb) nofun

theorem resolve (port : Port) (wear : SlotWear) : Statement (.resolve port wear) := by
  intro _ b hb
  exact absurd (show (none : Option (List Byte)) = some b from hb) nofun

theorem clearMark (port : Port) : Statement (.clearMark port) := by
  intro _ b hb
  exact absurd (show (none : Option (List Byte)) = some b from hb) nofun

theorem fencePeer (port : Port) : Statement (.fencePeer port) := by
  intro _ b hb
  exact absurd (show (none : Option (List Byte)) = some b from hb) nofun

theorem ackNotice (port : Port) : Statement (.ackNotice port) := by
  intro _ b hb
  exact absurd (show (none : Option (List Byte)) = some b from hb) nofun

theorem status (port : Port) : Statement (.status port) := by
  intro _ b hb
  exact absurd (show (none : Option (List Byte)) = some b from hb) nofun

theorem lapseTimerExpiry (port : Port) : Statement (.lapseTimerExpiry port) := by
  intro _ b hb
  exact absurd (show (none : Option (List Byte)) = some b from hb) nofun

theorem drainTimerExpiry (port : Port) : Statement (.drainTimerExpiry port) := by
  intro _ b hb
  exact absurd (show (none : Option (List Byte)) = some b from hb) nofun

theorem repeatTimerExpiry : Statement .repeatTimerExpiry := by
  intro _ b hb
  exact absurd (show (none : Option (List Byte)) = some b from hb) nofun

theorem leakTimerExpiry : Statement .leakTimerExpiry := by
  intro _ b hb
  exact absurd (show (none : Option (List Byte)) = some b from hb) nofun

theorem scrubPaceExpiry : Statement .scrubPaceExpiry := by
  intro _ b hb
  exact absurd (show (none : Option (List Byte)) = some b from hb) nofun

theorem scrubRead (wear : SlotWear) : Statement (.scrubRead wear) := by
  intro _ b hb
  exact absurd (show (none : Option (List Byte)) = some b from hb) nofun

theorem sweepStep (wear : SlotWear) : Statement (.sweepStep wear) := by
  intro _ b hb
  exact absurd (show (none : Option (List Byte)) = some b from hb) nofun

theorem sweepAdvance : Statement .sweepAdvance := by
  intro _ b hb
  exact absurd (show (none : Option (List Byte)) = some b from hb) nofun

theorem relocationMove (wear : SlotWear) : Statement (.relocationMove wear) := by
  intro _ b hb
  exact absurd (show (none : Option (List Byte)) = some b from hb) nofun

theorem initialiserWrite : Statement .initialiserWrite := by
  intro _ b hb
  exact absurd (show (none : Option (List Byte)) = some b from hb) nofun

theorem initialiserAdvance : Statement .initialiserAdvance := by
  intro _ b hb
  exact absurd (show (none : Option (List Byte)) = some b from hb) nofun

theorem getSetting (number : Byte) : Statement (.getSetting number) := by
  intro _ b hb
  obtain rfl := Option.some.inj hb
  exact ⟨nofun, fun _ => rfl⟩

theorem setSetting (number : Byte) (value : Half) : Statement (.setSetting number value) := by
  intro _ b hb
  obtain rfl := Option.some.inj hb
  exact ⟨nofun, fun _ => rfl⟩

theorem readView (view : Byte) : Statement (.readView view) := by
  intro _ b hb
  obtain rfl := Option.some.inj hb
  exact ⟨nofun, fun _ => rfl⟩

theorem readSlot (wear : SlotWear) : Statement (.readSlot wear) := by
  intro _ b hb
  exact absurd (show (none : Option (List Byte)) = some b from hb) nofun

theorem identify : Statement .identify := by
  intro _ b hb
  obtain rfl := Option.some.inj hb
  exact ⟨nofun, fun _ => rfl⟩

theorem fence (port : Byte) : Statement (.fence port) := by
  intro _ b hb
  obtain rfl := Option.some.inj hb
  exact ⟨nofun, fun _ => rfl⟩

theorem unfence (port : Byte) : Statement (.unfence port) := by
  intro _ b hb
  obtain rfl := Option.some.inj hb
  exact ⟨nofun, fun _ => rfl⟩

theorem serviceClearMark (port : Byte) : Statement (.serviceClearMark port) := by
  intro _ b hb
  obtain rfl := Option.some.inj hb
  exact ⟨nofun, fun _ => rfl⟩

theorem freeze : Statement .freeze := by
  intro _ b hb
  exact absurd (show (none : Option (List Byte)) = some b from hb) nofun

theorem thaw : Statement .thaw := by
  intro _ b hb
  exact absurd (show (none : Option (List Byte)) = some b from hb) nofun

theorem retireBlock : Statement .retireBlock := by
  intro _ b hb
  exact absurd (show (none : Option (List Byte)) = some b from hb) nofun

theorem clearFaults (classes : Byte) : Statement (.clearFaults classes) := by
  intro _ b hb
  obtain rfl := Option.some.inj hb
  exact ⟨nofun, fun _ => rfl⟩

theorem unknown (bytes : List Byte) : Statement (.unknown bytes) := by
  intro h b hb
  obtain rfl := Option.some.inj hb
  refine ⟨fun e => ?_, fun h' => absurd rfl (h' bytes)⟩
  subst e
  simp [Instr.wellFormed, unknownWrite, judgeWrite] at h

theorem serviceRequestAccepted (request : GrantRequest) : Statement (.serviceRequestAccepted request) := by
  intro _ b hb
  obtain rfl := Option.some.inj hb
  cases request <;> exact ⟨nofun, fun _ => rfl⟩

end Sys2Proof.Laws.ServiceWrite
end

