-- ==== Sys2Proof/Laws/SlotMap.lean ====
section
/-! SUPPORT. Slot-keyed tables: what an insertion and an erasure leave, and that both keep the canonical form. -/

namespace Sys2Proof.SlotMap

variable {α : Type}

@[simp] theorem find_insert_same (n : Nat) (v : α) (m : SlotMap α) : find n (insert n v m) = some v := by
  induction m with
  | nil => simp [insert, find]
  | cons x rest ih =>
    obtain ⟨k, w⟩ := x
    simp only [insert]
    split
    · simp [find]
    · split
      · simp [find]
      · simp_all [find]

theorem find_insert_other {n k : Nat} (h : k ≠ n) (v : α) (m : SlotMap α) : find k (insert n v m) = find k m := by
  induction m with
  | nil => simp [insert, find, h]
  | cons x rest ih =>
    obtain ⟨j, w⟩ := x
    simp only [insert]
    split
    · simp [find, h]
    · split
      · subst j
        simp [find, h]
      · simp only [find, ih]

theorem find_erase_other {n k : Nat} (h : k ≠ n) (m : SlotMap α) : find k (erase n m) = find k m := by
  induction m with
  | nil => rfl
  | cons x rest ih =>
    obtain ⟨j, w⟩ := x
    simp only [erase]
    split
    · subst j
      simp [find, h]
    · simp only [find, ih]

theorem wf_tail {x : Nat × α} {m : SlotMap α} (h : wf (x :: m) = true) : wf m = true := by
  cases m with
  | nil => rfl
  | cons y rest => simp [wf] at h; exact h.2

/-- In a canonical table every slot behind the first is larger. -/
theorem wf_cons_iff (n : Nat) (v : α) (m : SlotMap α) :
    wf ((n, v) :: m) = true ↔ (∀ x ∈ m, n < x.1) ∧ wf m = true := by
  induction m generalizing n v with
  | nil => simp [wf]
  | cons y rest ih =>
    obtain ⟨k, w⟩ := y
    simp only [wf, Bool.and_eq_true, decide_eq_true_eq, List.mem_cons, forall_eq_or_imp]
    constructor
    · rintro ⟨h, hw⟩
      exact ⟨⟨h, fun x hx => Nat.lt_trans h (((ih k w).1 hw).1 x hx)⟩, hw⟩
    · rintro ⟨⟨h, _⟩, hw⟩
      exact ⟨h, hw⟩

theorem find_eq_none_of_forall {n : Nat} {m : SlotMap α} (h : ∀ x ∈ m, x.1 ≠ n) : find n m = none := by
  induction m with
  | nil => rfl
  | cons y rest ih =>
    obtain ⟨k, w⟩ := y
    have h1 := h (k, w) (by simp)
    simp only [find]
    rw [if_neg (fun e => h1 e.symm)]
    exact ih fun x hx => h x (by simp [hx])

theorem find_erase_same {n : Nat} {m : SlotMap α} (h : wf m = true) : find n (erase n m) = none := by
  induction m with
  | nil => rfl
  | cons y rest ih =>
    obtain ⟨k, w⟩ := y
    have h' := (wf_cons_iff k w rest).1 h
    simp only [erase]
    split
    · subst k
      exact find_eq_none_of_forall fun x hx => Nat.ne_of_gt (h'.1 x hx)
    · next hne =>
      simp only [find, hne, if_false]
      exact ih h'.2

theorem mem_insert {n : Nat} {v : α} {m : SlotMap α} {x : Nat × α} (h : x ∈ insert n v m) : x = (n, v) ∨ x ∈ m := by
  induction m with
  | nil => simpa [insert] using h
  | cons y rest ih =>
    obtain ⟨k, w⟩ := y
    simp only [insert] at h
    split at h
    · simpa using h
    · split at h
      · rcases List.mem_cons.1 h with h | h
        · exact .inl h
        · exact .inr (List.mem_cons_of_mem _ h)
      · rcases List.mem_cons.1 h with h | h
        · exact .inr (by simp [h])
        · rcases ih h with h | h
          · exact .inl h
          · exact .inr (List.mem_cons_of_mem _ h)

theorem mem_of_mem_erase {n : Nat} {m : SlotMap α} {x : Nat × α} (h : x ∈ erase n m) : x ∈ m := by
  induction m with
  | nil => simp [erase] at h
  | cons y rest ih =>
    obtain ⟨k, w⟩ := y
    simp only [erase] at h
    split at h
    · exact List.mem_cons_of_mem _ h
    · rcases List.mem_cons.1 h with h | h
      · simp [h]
      · exact List.mem_cons_of_mem _ (ih h)

theorem wf_insert (n : Nat) (v : α) {m : SlotMap α} (h : wf m = true) : wf (insert n v m) = true := by
  induction m with
  | nil => rfl
  | cons y rest ih =>
    obtain ⟨k, w⟩ := y
    have h' := (wf_cons_iff k w rest).1 h
    simp only [insert]
    split
    · next hlt =>
      refine (wf_cons_iff n v _).2 ⟨fun x hx => ?_, h⟩
      rcases List.mem_cons.1 hx with hx | hx
      · simpa [hx] using hlt
      · exact Nat.lt_trans hlt (h'.1 x hx)
    · split
      · subst k
        exact (wf_cons_iff n v rest).2 h'
      · next h1 h2 =>
        refine (wf_cons_iff k w _).2 ⟨fun x hx => ?_, ih h'.2⟩
        rcases mem_insert hx with hx | hx
        · rw [hx]; show k < n; omega
        · exact h'.1 x hx

theorem wf_erase (n : Nat) {m : SlotMap α} (h : wf m = true) : wf (erase n m) = true := by
  induction m with
  | nil => rfl
  | cons y rest ih =>
    obtain ⟨k, w⟩ := y
    have h' := (wf_cons_iff k w rest).1 h
    simp only [erase]
    split
    · exact h'.2
    · exact (wf_cons_iff k w _).2 ⟨fun x hx => h'.1 x (mem_of_mem_erase hx), ih h'.2⟩

/-- In a canonical table a slot is listed with exactly the value `find` gives. -/
theorem mem_iff_find {n : Nat} {v : α} {m : SlotMap α} (h : wf m = true) : (n, v) ∈ m ↔ find n m = some v := by
  induction m with
  | nil => simp [find]
  | cons y rest ih =>
    obtain ⟨k, w⟩ := y
    have h' := (wf_cons_iff k w rest).1 h
    simp only [find, List.mem_cons, Prod.mk.injEq]
    by_cases e : n = k
    · subst n
      simp only [true_and, if_true, Option.some.injEq]
      constructor
      · rintro (rfl | hx)
        · rfl
        · exact absurd (h'.1 _ hx) (Nat.lt_irrefl _)
      · intro hx
        exact .inl hx.symm
    · simp only [e, false_and, false_or, if_false]
      exact ih h'.2

end Sys2Proof.SlotMap
end

