-- ==== Sys2Proof/Laws/Store.lean ====
section
/-! SUPPORT. The slot store and the index under the named writes: what each leaves in its slot and in the others, and that both
tables keep their canonical form. -/

namespace Sys2Proof.Machine

theorem putSlot_store_wf (s : State) (n : Nat) (x : StoredSlot) (h : s.journal.store.wf = true) :
    (s.putSlot n x).journal.store.wf = true := SlotMap.wf_insert n x h

@[simp] theorem putSlot_stored_same (s : State) (n : Nat) (x : StoredSlot) : (s.putSlot n x).stored n = x := by
  simp [State.putSlot]

theorem putSlot_stored_other (s : State) {n m : Nat} (x : StoredSlot) (h : m ≠ n) : (s.putSlot n x).stored m = s.stored m := by
  simp [State.putSlot, SlotMap.find_insert_other h]

theorem freeWrite_store_wf (s : State) (n : Nat) (h : s.journal.store.wf = true) :
    (s.freeWrite n).journal.store.wf = true := SlotMap.wf_insert n freeSlot h

theorem keyWrite_store_wf (s : State) (n : Nat) (v : KeyValue) (h : s.journal.store.wf = true) :
    (s.keyWrite n v).journal.store.wf = true := SlotMap.wf_insert n _ h

theorem entryWrite_wf (s : State) (n : Nat) (k : RegionKey) (e : EntryBody)
    (h : s.journal.store.wf = true ∧ s.journal.index.wf = true) :
    (s.entryWrite n k e).journal.store.wf = true ∧ (s.entryWrite n k e).journal.index.wf = true :=
  ⟨SlotMap.wf_insert n _ h.1, SlotMap.wf_insert n _ h.2⟩

theorem bodyWrite_wf (s : State) (n : Nat) (e : EntryBody)
    (h : s.journal.store.wf = true ∧ s.journal.index.wf = true) :
    (s.bodyWrite n e).journal.store.wf = true ∧ (s.bodyWrite n e).journal.index.wf = true := by
  unfold State.bodyWrite
  dsimp only
  split
  · exact ⟨SlotMap.wf_insert n _ h.1, SlotMap.wf_insert n _ h.2⟩
  · exact ⟨SlotMap.wf_insert n _ h.1, h.2⟩

theorem unlink_wf (s : State) (n : Nat) (h : s.journal.index.wf = true) : (s.unlink n).journal.index.wf = true :=
  SlotMap.wf_erase n h

/-- A body write leaves the key copies and gives the body the entry's fields with a valid code; other slots stand. -/
theorem bodyWrite_stored (s : State) (n : Nat) (e : EntryBody) :
    (s.bodyWrite n e).stored n = { s.stored n with body := .entry e, ecc := .clean } ∧
    ∀ m, m ≠ n → (s.bodyWrite n e).stored m = s.stored m := by
  unfold State.bodyWrite
  dsimp only
  split
  · exact ⟨putSlot_stored_same s n _, fun m h => putSlot_stored_other s _ h⟩
  · exact ⟨putSlot_stored_same s n _, fun m h => putSlot_stored_other s _ h⟩

/-- A body write leaves the associations but for the summary of the slot's own. -/
theorem bodyWrite_assoc (s : State) (n : Nat) (e : EntryBody) :
    (s.bodyWrite n e).assoc n = (s.assoc n).map (fun a => { a with summary := e.summary }) ∧
    ∀ m, m ≠ n → (s.bodyWrite n e).assoc m = s.assoc m := by
  unfold State.bodyWrite
  dsimp only
  split
  · next a ha =>
    refine ⟨?_, fun m h => SlotMap.find_insert_other h _ _⟩
    rw [ha]
    exact SlotMap.find_insert_same n _ _
  · next ha => exact ⟨by rw [ha]; exact ha, fun m h => rfl⟩

end Sys2Proof.Machine
end

