-- ==== Sys2Proof/Tests/Slice0.lean ====
section
/-! SUPPORT. Tests: ill-formed commands that the check refuses, small facts of the spec's tables, one run of each family of
commands on small states, and, for every statement with hypotheses, states and operands that meet them (`witness_…`). -/

namespace Sys2Proof.Tests

open Sys2Proof Sys2Proof.Machine

/-! Well-formedness -/

set_option maxRecDepth 20000 in
theorem test_ill_formed_adopt : (Instr.adopt .a (List.replicate 1025 {})).wellFormed = false := by decide
theorem test_ill_formed_frame : (Instr.requestFrame .a []).wellFormed = false := by decide
theorem test_ill_formed_unknown_empty : (Instr.unknown []).wellFormed = false := by decide
theorem test_ill_formed_unknown_accepted : (Instr.unknown [0x05, 0x00]).wellFormed = false := by decide
theorem test_ill_formed_unknown_keep : (Instr.unknown [0x31, 0x01, 0x01]).wellFormed = false := by decide
theorem test_well_formed_unknown :
    (Instr.unknown [0x05]).wellFormed = true ∧ (Instr.unknown [0x77, 0x00]).wellFormed = true ∧
    (Instr.unknown [0x31, 0x01, 0x03]).wellFormed = true := by decide
theorem test_no_word_spells_a_command : decodeTableWord 32 7 = none ∧ (State.reset.withFetchWord 32 7).pending = [] := by decide

/-! Tables -/

set_option maxRecDepth 20000 in
/-- The CRC-32 check value of the nine digits. -/
theorem test_crc_check_value :
    crc32 [0x31, 0x32, 0x33, 0x34, 0x35, 0x36, 0x37, 0x38, 0x39] = 0xFC891918#32 := by decide
theorem test_address_of_pins :
    (State.poweredOn 0#2 0 []).service.address = 0x58#7 ∧ (State.poweredOn 3#2 0 []).service.address = 0x5B#7 := by decide
theorem test_views_have_the_lengths_given :
    State.reset.sessionsView.length = 42 ∧ State.reset.journalView.length = 24 ∧ State.reset.blocksView.length = 42 ∧
    State.reset.faultsView.length = 92 ∧ State.reset.resetView.length = 13 ∧ emptyReport.length = 33 := by decide
theorem test_malformed_requests :
    (Request.mk 0x02 0 1 [3]).classify = .bad ∧ (Request.mk 0x10 0 1 [256, 0]).classify = .bad ∧
    (Request.mk 0x40 0 1 [11]).classify = .bad ∧ (Request.mk 0x04 0 1 []).classify = .bad ∧
    (Request.mk 0x10 0 1 [255, 0, 1, 2]).classify = .openIntent ⟨255, 0⟩ [1, 2] := by decide

/-! A small running part -/

def k0 : RegionKey := ⟨1, 0⟩
def k1 : RegionKey := ⟨1, 1⟩
def k2 : RegionKey := ⟨1, 2⟩
def k3 : RegionKey := ⟨1, 3⟩
def k4 : RegionKey := ⟨1, 4⟩
def k5 : RegionKey := ⟨1, 5⟩
def kNew : RegionKey := ⟨255, 9⟩

def body (st : EntryState) (holdA holdB : Option Held) (stamp : Stamp) (adopter : Option Adopter := none)
    (lost : Bool := false) (note : List Word := []) : EntryBody :=
  { state := st, holdA := holdA, holdB := holdB, lostHolder := lost, damaged := false, stamp := stamp, note := note
    adopter := adopter }

/-- Six live entries: held by A alone 15 times; held by A and by an old session of B; ORPHAN; ADOPTED by A; ADOPTED by an old
session of B; and, in block 1, held by A with the lost-holder mark. -/
def entries : List (Nat × RegionKey × EntryBody) :=
  [(0, k0, body .opened (some ⟨15, 1⟩) none 1), (1, k1, body .opened (some ⟨1, 1⟩) (some ⟨1, 1⟩) 2),
   (2, k2, body .orphan none none 3 none true [7, 8]), (3, k3, body .adopted none none 4 (some ⟨.a, 1⟩)),
   (4, k4, body .adopted none none 5 (some ⟨.b, 1⟩)), (64, k5, body .opened (some ⟨1, 1⟩) none 6 none true)]

/-- READY, port A ATTACHED, port B DETACHED, both links UP, block 1 MOVING. -/
def demo : State :=
  { State.reset with
    links := ⟨{ state := .up }, { state := .up }⟩
    sessions := ⟨{ state := .attached, epoch := 1, holdings := 3, adoptions := 1, lapseTimer := some 500, clearedSince := false },
                 { epoch := 1, clearedSince := false }⟩
    arbiter := { scrubTimer := some 1000 }
    journal := {
      store := (entries.map fun x => (x.1, entrySlot x.2.1 x.2.2)).filter (fun x => x.1 < 8) ++
        [(8, freeSlot), (9, freeSlot), (64, entrySlot k5 (body .opened (some ⟨1, 1⟩) none 6 none true)), (128, freeSlot)]
      index := entries.map fun x => (x.1, { key := x.2.1, summary := x.2.2.summary })
      pool := [8, 9], orphans := [⟨k2, 3⟩], stamp := 7 }
    engine := { state := .ready, initPos := 1024, armed := false }
    integrity := { blocks := (Vector.replicate 16 {}).setIfInBounds 1 { state := .moving, bucket := 8 }
                   reserve := 1, leakTimer := some 3600000 } }

/-- The same without a block in progress. -/
def calm : State := { demo with integrity := { leakTimer := some 3600000 } }

/-- A request at the head of a port's queue, under epoch 1. -/
def asks (s : State) (p : Port) (kind : Byte) (payload : List Word := []) : State :=
  s.setLink p { s.link p with requests := [⟨kind, 5, 1, payload⟩] }

/-- The status and payload of the newest cached reply after a command. -/
def answer (c : Instr) (p : Port) (s : State) : Option (ReplyStatus × List Word) :=
  match exec c s with
  | .next t => ((t.link p).cache.getLast?).map fun r => (r.status, r.payload)
  | _ => none

/-- A fact of the state after a command. -/
def after (c : Instr) (s : State) (f : State → Bool) : Bool :=
  match exec c s with
  | .next t => f t
  | _ => false

/-- The service result after a command. -/
def result (c : Instr) (s : State) : Option ServiceResult :=
  match exec c s with
  | .next t => t.service.result
  | _ => none

/-- A request waiting at the service port. -/
def waits (s : State) (r : GrantRequest) : State := s.setService { s.service with target := .busy, inProgress := some r }

/-! One run of each family -/

theorem test_open_new : answer (.openIntent .a {}) .a (asks demo .a 0x10 [255, 9]) = some (.opened, [0, 7, 1]) := by decide
theorem test_open_at_the_limit : answer (.openIntent .a {}) .a (asks demo .a 0x10 [1, 0]) = some (.holdLimit, [0, 1, 15]) := by decide
theorem test_close_counts_down : answer (.closeIntent .a {}) .a (asks demo .a 0x11 [1, 0]) = some (.closed, [14]) := by decide
theorem test_close_without_a_hold : answer (.closeIntent .a {}) .a (asks demo .a 0x11 [1, 4]) = some (.notHeld, []) := by decide
theorem test_close_of_the_last_hold_orphans : answer (.closeIntent .a {}) .a (asks demo .a 0x11 [1, 5]) = some (.orphaned, [0, 6]) := by decide
theorem test_query_converts : answer (.query .a {}) .a (asks demo .a 0x12 [1, 1]) = some (.ok, [0x01010001, 0, 2, 0]) := by decide
theorem test_adopt_takes_one :
    answer (.adopt .a []) .a (asks demo .a 0x20) = some (.ok, [0x01000000, 1, 2, 0, 3, 0x21, 7, 8]) := by decide
theorem test_resolve_releases : answer (.resolve .a {}) .a (asks demo .a 0x21 [1, 3]) = some (.released, [0, 4]) := by decide
theorem test_attach_opens : answer (.attach .b) .b (asks demo .b 0x01 [77]) = some (.ok, [77, 0x00010002, 0x100, 1]) := by decide
theorem test_status_reports :
    answer (.status .a) .a (asks demo .a 0x41) = some (.ok, [0x01010000, 0x00030001, 0x00020001, 0x00010000]) := by decide
theorem test_relocation_moves : after (.relocationMove {}) demo (fun t =>
    decide (t.keyAt 8 = some k5 ∧ t.keyAt 64 = none ∧ (t.block 1).state = .retired ∧ t.journal.pool = [9])) = true := by decide
theorem test_lost_key_removes :
    after (.query .a { keys := some ⟨.freeMarker, .key k1, .key k2⟩ }) (asks demo .a 0x12 [1, 0]) (fun t =>
      decide (t.lookup k0 = none ∧ t.journal.compromised = true ∧ (t.session .a).holdings = 2)) = true := by decide
theorem test_lost_body_damages :
    after (.query .a { ecc := some .uncorrectable }) (asks demo .a 0x12 [1, 0]) (fun t =>
      decide (t.journal.orphans = [⟨k0, 0⟩, ⟨k2, 3⟩] ∧ (t.block 0).bucket = 8 ∧ t.integrity.retireQueue = [0])) = true := by decide
theorem test_lapse_marks : after (.lapseTimerExpiry .a) demo (fun t =>
    decide ((t.session .a).state = .lapsed ∧ (t.session .a).lapseMark = true ∧ t.sweeper.pending = true ∧
      t.faults.alert = true)) = true := by decide
theorem test_identify : result .identify demo = some { status := .ok, data := [0x24, 0x10, 0x01, 0x00] } := by decide
theorem test_get_lapse_period : result (.getSetting 1) demo = some { status := .ok, data := [0, 50] } := by decide
theorem test_set_out_of_range : result (.setSetting 8 16) demo = some { status := .range, data := [0, 8] } := by decide
theorem test_initialiser_pools_slot_0 : after .initialiserWrite State.reset (fun t =>
    decide (t.journal.pool = [0] ∧ t.engine.initPos = 1)) = true := by decide

/-- An ATTACH frame that carries the current epoch leaves the lapse timer; a PULSE frame restarts it (R56). -/
theorem test_attach_frame_leaves_the_lapse_timer :
    (demo.restartLapse .a ⟨0x01, 5, 1, [7]⟩).sessions = demo.sessions ∧
    ((demo.setSession .a { demo.session .a with lapseTimer := some 3 }).restartLapse .a ⟨0x03, 5, 1, []⟩) = demo := by decide

/-- A retirement due at the next grant, of a block with live entries and pooled slots. -/
def due : State := { calm with integrity := { calm.integrity with retireQueue := [0] } }

/-- JOURNAL_LOW raised at the start of an ATTACH grant reaches the port that was attached, not the one that attaches (R142). -/
theorem test_raise_before_an_attach_is_lost :
    after (.attach .b) (asks { due with engine := { due.engine with armed := true } } .b 0x01 [7]) (fun t =>
      decide ((t.link .b).outbound.length = 1 ∧ t.engine.armed = false ∧ (t.link .a).outbound =
        [.notice .journalLow 1 0 (some 0), .notice .peerAttached 1 1 (some 2)])) = true := by decide

/-- A CLOSE that removes the entry at the sweeper's position leaves the request standing: SWEEP_ADVANCE waits, SWEEP_STEP passes. -/
theorem test_standing_sweep_request :
    let s := asks ({ calm with sweeper := { pending := true, position := 0, endMarker := 9 } }.bodyWrite 0 (body .opened (some ⟨1, 1⟩) none 1))
      .a 0x11 [1, 0]
    after (.closeIntent .a {}) s (fun t => decide (t.arbiter.sweepRequest = true ∧ t.condition 0 = .pooled ∧
      t.nextGrant = some (.place .sweeper)) && after .sweepAdvance t (fun u => decide (u.sweeper.position = 0)) &&
      after (.sweepStep {}) t (fun u => decide (u.sweeper.position = 1 ∧ u.arbiter.sweepRequest = false))) = true := by decide

/-- The bus: another address, a refused address in BUSY, a write abandoned by a repeated START, a read past the end. -/
theorem test_bus :
    (demo.busStart 0x59#7 .write).1 = false ∧ ((waits demo .freeze).busStart 0x58#7 .read).1 = false ∧
    (((demo.busStart 0x58#7 .write).2.busByte 5).2.busStart 0x58#7 .read).2.service = { demo.service with target := .sending } ∧
    (demo.read 3).map Prod.fst = some [some 1, some 7, some 0xFF] ∧ (demo.read 3).map Prod.snd = some demo ∧
    ((waits demo .freeze).read 1).isNone = true ∧ (demo.write [0x05]).map (fun t => t.service.result) =
      some (some { status := .badFormat }) := by decide

/-! Hypotheses met -/

theorem witness_lawful_demo : Lawful demo := lawful_of_checks (by decide) (by decide)

/-- For the statements that every step keeps a law: a lawful state whose step moves an entry and retires a block. -/
theorem witness_laws_kept : ∃ s t, Lawful s ∧ LinkLaw s ∧ OutboundLaw s ∧ step s = .next t ∧ t.integrity ≠ s.integrity := by
  refine ⟨{ demo with pending := [.relocationMove {}] }, _, lawful_of_checks (by decide) (by decide), ?_, ?_, rfl, by decide⟩
  · exact (lawful_of_checks (s := { demo with pending := [.relocationMove {}] }) (by decide) (by decide)).1
  · exact (lawful_of_checks (s := { demo with pending := [.relocationMove {}] }) (by decide) (by decide)).2.1

/-- The counts of the demonstration state are those of its live holds and adoptions, and no entry records a next epoch. -/
theorem witness_EveryStepKeepsSessionLaw :
    (∃ s t, Lawful s ∧ CountLaw s ∧ EpochsFresh s ∧ step s = .next t) ∧ (demo.session .a).holdings = 3 ∧
    (demo.session .a).adoptions = 1 := by
  refine ⟨⟨{ demo with pending := [.relocationMove {}] }, _, lawful_of_checks (by decide) (by decide), ?_, ?_, rfl⟩, by decide, by decide⟩
  · intro p
    cases p <;> decide
  · exact epochsFresh_of_check (by decide)

theorem witness_EmptyQueueIsOneMillisecond : demo.pending = [] := by decide

theorem witness_RequestFramesReadBack :
    (Request.mk 0x10 255 0xFFFF [1, 2, 3, 4, 5, 6]).payload.length ≤ 6 ∧
    (Reply.mk 0xA0 255 .ok (List.replicate 29 0)).payload.length ≤ 29 := by decide

/-- FROZEN, with a block in progress that has lost its last entry, and with one that has not. -/
theorem witness_WarmResetKeepsTheJournal :
    demo.service.target ≠ .busy ∧
    (let f : State := { demo with engine := { demo.engine with state := .frozen } }
     f.inProgress = some 1 ∧ f.integrity.reserve = 1 ∧
       ({ f with integrity := { f.integrity with reserve := 0 } } : State).inProgress = some 1) := by decide

theorem witness_LinkEventsMoveTheLink :
    (let s := demo.setLink .a { demo.link .a with outbound := [.notice .peerAttached 1 0 none] }
     (s.link .a).state = .up ∧ (s.link .a).outbound = .notice .peerAttached 1 0 none :: []) ∧
    (State.reset.link .a).state ≠ .up := by decide

set_option maxRecDepth 20000 in
theorem witness_BadFramesAreDiscarded :
    (State.reset.link .a).state ≠ .up ∧ (demo.link .a).state = .up ∧
    receiveFrame [0, 0] = .malformed ∧ receiveFrame [0, 0x07000000, 0, 0, 0, 0, 0, 0, 0, 0] = .malformed ∧
    receiveFrame [0, 0x01000000, 0] = .malformed ∧ receiveFrame [0, 0, 0] = .badCrc ∧
    (0 : Word) ≠ frameCrc [0, 0x06000000, 1, 2, 3, 4, 5, 6] := by decide

set_option maxRecDepth 20000 in
/-- Queues of 7 and 8 requests, outbound queues of 15 and 16 frames. -/
theorem witness_GoodFramesAreAdmitted :
    let r : Request := ⟨0x03, 5, 1, []⟩
    let full : List Request := (List.range 8).map fun i => ⟨0x03, BitVec.ofNat 8 (100 + i), 1, []⟩
    receiveFrame r.words = .good r ∧ receiveFrame (Request.mk 0x01 5 1 [7]).words = .good ⟨0x01, 5, 1, [7]⟩ ∧ (demo.link .a).state = .up ∧ demo.isOpen .a = true ∧ r.epoch = (demo.session .a).epoch ∧
    r.seq ∉ (demo.link .a).cached ∧ full.length = 8 ∧ r.seq ∉ full.map Request.seq ∧ (full.take 7).length < 8 ∧
    (List.replicate 15 (OutFrame.notice .peerAttached 1 0 none)).length < 16 ∧
    ([(⟨0x83, 5, .ok, []⟩ : Reply)].find? fun c => c.seq = r.seq) = some ⟨0x83, 5, .ok, []⟩ := by decide

/-- Grants to the scrubber, right after a scrub grant to the rotation, to each kind of place, to none. -/
theorem witness_GrantStartMovesThePointer :
    (demo.closingDue = false ∧ due.closingDue = true ∧ due.integrity.retireQueue = 0 :: [] ∧ Lawful due) ∧
    RetirementLaw demo ∧ demo.nextGrant = some (.place .relocator) ∧ State.reset.nextGrant = some (.place .initialiser) ∧
    calm.nextGrant = none ∧ (waits calm .freeze).nextGrant = some (.place .service) ∧
    (asks demo .b 0x03).nextGrant = some (.place .portB) ∧
    (let s := asks (asks demo .b 0x03) .a 0x03
     s.nextGrant = some (.place .portA) ∧ (s.grantStart .a).nextGrant = some (.place .portB)) ∧
    ({ demo with arbiter := { scrubDue := true } } : State).nextGrant = some .scrubber ∧
    ({ demo with arbiter := { scrubDue := true, lastWasScrub := true } } : State).nextGrant = some (.place .relocator) ∧
    ({ calm with arbiter := { scrubDue := true, lastWasScrub := true } } : State).nextGrant = some .scrubber :=
  ⟨⟨by decide, by decide, by decide, lawful_of_checks (by decide) (by decide)⟩, witness_lawful_demo.2.2.2.2.2.2.2.2.2.2.2.1,
   by decide, by decide, by decide, by decide, by decide, by decide, by decide, by decide, by decide⟩

/-- Two blocks due: the first has no live entry and is RETIRED at the start of a sweep or scrub grant, the second enters CLOSING. -/
theorem witness_EveryGrantEntersClosing :
    let s : State := { due with integrity := { due.integrity with retireQueue := [9, 0] } }
    Lawful s ∧ s.closingDue = true ∧ s.liveInBlock 9 = 0 ∧ 0 < s.liveInBlock 0 ∧
    ([s.beginGrant .sweeper, s.beginGrant .relocator, s.beginGrant .service, s.beginScrub].all fun t =>
      decide ((t.block 9).state = .retired ∧ t.inProgress = some 0 ∧ t.integrity.retireQueue = [] ∧
        t.integrity.reserve = s.liveInBlock 0)) = true :=
  ⟨lawful_of_checks (by decide) (by decide), by decide, by decide, by decide, by decide⟩

/-- Queues of 15 and of 16 frames, a flag clear and set. -/
theorem witness_RaisesSendAndSetFlags :
    let s := demo.setLink .a { demo.link .a with outbound := List.replicate 15 (.notice .peerAttached 1 0 none) }
    let full := demo.setLink .a { demo.link .a with outbound := List.replicate 16 (.notice .peerAttached 1 0 none) }
    s.isOpen .a = true ∧ (s.link .a).outbound.length < 16 ∧ ¬((full.link .a).outbound.length < 16) ∧
    ((s.notices.flags.get .a).get .peerFenced).isSome = false ∧
    (((s.setFlag .a .peerFenced (some (some 2))).notices.flags.get .a).get .peerFenced).isSome = true ∧
    demo.holdNotices.notices.held = some [] ∧ demo.isOpen .b = false ∧ NoticeKind.blockRetired.repeating = false ∧
    NoticeKind.peerFenced.repeating = true ∧ s.notices.repeatTimer = none ∧
    ((s.setFlag .a .peerFenced (some (some 2))).notices.flags.get .a).any = true := by decide

theorem witness_FaultsFillOrJoin :
    (demo.faults.get .link).first = none ∧ ((demo.capture { kind := .crc, port := some .a }).faults.get .link).first.isSome = true := by
  decide

theorem witness_GrantChecksRefuseInOrder :
    Granted (asks State.reset .a 0x41) .a ⟨0x41, 5, 1, []⟩ .status ∧ (asks State.reset .a 0x41).engine.state = .initializing ∧
    Granted (asks demo .a 0x7F) .a ⟨0x7F, 5, 1, []⟩ .bad ∧
    Granted (asks demo .b 0x41) .b ⟨0x41, 5, 1, []⟩ .status ∧ ((asks demo .b 0x41).session .b).state = .detached ∧
    ((asks (demo.setSession .b { demo.session .b with state := .fenced, fenceLine := true }) .b 0x01 [0]).session .b).state = .fenced ∧
    (let s := asks (demo.setSession .a { demo.session .a with epoch := 2 }) .a 0x41
     Granted s .a ⟨0x41, 5, 1, []⟩ .status ∧ s.isOpen .a = true ∧ (1 : Epoch) ≠ (s.session .a).epoch) := by
  simp only [Granted]
  decide

theorem witness_RequestsOutOfTurnChangeNothing :
    isRequestOf .a (.status .a) ∧ demo.grantedRequest .a = none ∧ Granted (asks demo .a 0x03) .a ⟨0x03, 5, 1, []⟩ .pulse ∧
    ∀ w ws, Instr.status .a ≠ commandFor .a w ws .pulse := by
  refine ⟨rfl, by decide, ?_, fun _ _ => nofun⟩
  simp only [Granted]
  decide

/-- The last epoch, and a port whose session is open. -/
theorem witness_AttachOpensASession :
    let s := asks (demo.setSession .b { demo.session .b with epoch := 0xFFFF }) .b 0x01 [7]
    Granted s .b ⟨0x01, 5, 1, [7]⟩ (.attach 7) ∧ s.engine.state ≠ .initializing ∧ (s.session .b).state ≠ .fenced ∧
    s.closingDue = false ∧ s.isOpen .a = true ∧ Granted (asks demo .a 0x01 [7]) .a ⟨0x01, 5, 1, [7]⟩ (.attach 7) ∧
    Granted (asks due .b 0x01 [7]) .b ⟨0x01, 5, 1, [7]⟩ (.attach 7) ∧ (asks due .b 0x01 [7]).closingDue = true := by
  simp only [Granted]
  decide

theorem witness_DetachEndsOrDrains :
    Executes (asks demo .a 0x02 [1]) .a ⟨0x02, 5, 1, [1]⟩ .detachGraceful ∧
    Executes (asks demo .a 0x02 [2]) .a ⟨0x02, 5, 1, [2]⟩ .detachAbrupt ∧
    (let s := asks (demo.setSession .a { demo.session .a with holdings := 0, adoptions := 0 }) .a 0x02 [1]
     Executes s .a ⟨0x02, 5, 1, [1]⟩ .detachGraceful ∧ (s.session .a).holdings = 0 ∧ (s.session .a).adoptions = 0) ∧
    Executes (asks (demo.setSession .a { demo.session .a with state := .draining }) .a 0x02 [1]) .a ⟨0x02, 5, 1, [1]⟩
      .detachGraceful := by
  simp only [Executes, Granted]
  decide

theorem witness_PulseAndStatusOnlyReport :
    Executes (asks demo .a 0x03) .a ⟨0x03, 5, 1, []⟩ .pulse ∧ Executes (asks demo .a 0x41) .a ⟨0x41, 5, 1, []⟩ .status ∧
    (asks demo .a 0x03).closingDue = false := by
  simp only [Executes, Granted]
  decide

theorem witness_ClearMarkAndAckNotice :
    Executes (asks demo .a 0x30) .a ⟨0x30, 5, 1, []⟩ .clearMark ∧
    Executes (asks demo .a 0x40 [3]) .a ⟨0x40, 5, 1, [3]⟩ (.ackNotice .peerLapsed) ∧
    Executes (asks demo .a 0x40 [10]) .a ⟨0x40, 5, 1, [10]⟩ (.ackNotice .freezeChanged) := by
  simp only [Executes, Granted]
  decide

/-- The four refusals of FENCE_PEER, and none of them. -/
theorem witness_FencePeerFencesTheOtherPort :
    let r : Request := ⟨0x31, 5, 1, []⟩
    let marked := demo.setSession .a { demo.session .a with lapseMark := true }
    let off := demo.setService { demo.service with settings := { demo.settings with fencePeerEnable := 0 } }
    let fencedB := demo.setSession .b { demo.session .b with state := .fenced, fenceLine := true }
    let draining := demo.setSession .a { demo.session .a with state := .draining }
    Executes (asks demo .a 0x31) .a r .fencePeer ∧ Executes (asks marked .a 0x31) .a r .fencePeer ∧
    Executes (asks off .a 0x31) .a r .fencePeer ∧ Executes (asks fencedB .a 0x31) .a r .fencePeer ∧
    Executes (asks draining .a 0x31) .a r .fencePeer := by
  simp only [Executes, Granted]
  decide

/-- Room in quota and pool; holdings at the quota; the pool at the reserve; the last stamp, with room; and an entry that the read loses. -/
theorem witness_OpenOfANewKeyCreatesAnEntry :
    let s := asks demo .a 0x10 [255, 9]
    Executes s .a ⟨0x10, 5, 1, [255, 9]⟩ (.openIntent kNew []) ∧ s.engine.state = .ready ∧ (s.session .a).state = .attached ∧
    s.lookup kNew = none ∧
    (let v := s.grantStart .a
     v.integrity.retireQueue = [] ∧ 0 < v.integrity.reserve ∧ v.integrity.reserve < v.pooled ∧ v.journal.pool = 8 :: [9] ∧ v.journal.stamp ≠ Config.stampMax ∧
       (v.session .a).holdings < v.settings.quota .a) ∧
    (let q := s.setService { s.service with settings := { s.settings with quotaA := 3 } }
     (q.grantStart .a).settings.quota .a ≤ ((q.grantStart .a).session .a).holdings) ∧
    ((s.setJournal { s.journal with pool := [9] }).grantStart .a).pooled ≤ 1 ∧
    (let y := s.setJournal { s.journal with stamp := Config.stampMax }
     Executes y .a ⟨0x10, 5, 1, [255, 9]⟩ (.openIntent kNew []) ∧ (y.grantStart .a).journal.stamp = Config.stampMax ∧
       (y.grantStart .a).integrity.reserve < (y.grantStart .a).pooled) ∧
    ((asks demo .a 0x10 [1, 0]).lookup k0 = some 0 ∧
      (((asks demo .a 0x10 [1, 0]).grantStart .a).readSlot 0 { keys := some ⟨.freeMarker, .key k1, .key k2⟩ }).entryAt 0 = none) := by
  simp only [Executes, Granted]
  decide

/-- A hold at 15, one below it, no hold, no entry in state OPEN; holdings at the quota. -/
theorem witness_OpenOfAnEntryJoinsIt :
    let s := asks demo .a 0x10 [1, 0, 5]
    Executes s .a ⟨0x10, 5, 1, [1, 0, 5]⟩ (.openIntent k0 [5]) ∧ s.lookup k0 = some 0 ∧
    ((s.grantStart .a).readSlot 0 {}).entryAt 0 = some (body .opened (some ⟨15, 1⟩) none 1) ∧
    (let t := asks demo .a 0x10 [1, 1]
     Executes t .a ⟨0x10, 5, 1, [1, 1]⟩ (.openIntent k1 []) ∧
     ((t.grantStart .a).readSlot 1 {}).entryAt 1 = some (body .opened (some ⟨1, 1⟩) none 2 none true)) ∧
    (let t := asks demo .a 0x10 [1, 2]
     ((t.grantStart .a).readSlot 2 {}).entryAt 2 = some (body .orphan none none 3 none true [7, 8])) ∧
    (let u := asks (demo.setSession .b { demo.session .b with state := .attached, epoch := 2, lapseTimer := some 1 }) .b 0x10 [1, 0]
     ((u.grantStart .b).readSlot 0 {}).entryAt 0 = some (body .opened (some ⟨15, 1⟩) none 1) ∧
     (u.session .b).holdings < u.settings.quota .b) := by
  simp only [Executes, Granted]
  decide

theorem witness_FrozenAndDrainingRefuseOpenAndAdopt :
    let frozen : State := { demo with engine := { demo.engine with state := .frozen } }
    let draining := demo.setSession .a { demo.session .a with state := .draining }
    Executes (asks frozen .a 0x20) .a ⟨0x20, 5, 1, []⟩ .adopt ∧ Executes (asks draining .a 0x20) .a ⟨0x20, 5, 1, []⟩ .adopt ∧
    Executes (asks frozen .a 0x10 [1, 0]) .a ⟨0x10, 5, 1, [1, 0]⟩ (.openIntent k0 []) := by
  simp only [Executes, Granted]
  decide

/-- A hold of 15, a last hold with and without the lost-holder mark, a hold beside a live one. -/
theorem witness_CloseLowersAHold :
    let s := asks demo .a 0x11 [1, 0]
    Executes s .a ⟨0x11, 5, 1, [1, 0]⟩ (.closeIntent k0) ∧ s.lookup k0 = some 0 ∧
    ((s.grantStart .a).readSlot 0 {}).entryAt 0 = some (body .opened (some ⟨15, 1⟩) none 1) ∧
    (let t := asks demo .a 0x11 [1, 5]
     Executes t .a ⟨0x11, 5, 1, [1, 5]⟩ (.closeIntent k5) ∧
     ((t.grantStart .a).readSlot 64 {}).entryAt 64 = some (body .opened (some ⟨1, 1⟩) none 6 none true)) ∧
    (let u := demo.setSession .b { demo.session .b with state := .attached, lapseTimer := some 1, holdings := 1 }
     ((asks u .a 0x11 [1, 1]).grantStart .a |>.readSlot 1 {}).entryAt 1 = some (body .opened (some ⟨1, 1⟩) (some ⟨1, 1⟩) 2)) ∧
    (let u := (demo.bodyWrite 0 (body .opened (some ⟨1, 1⟩) none 1))
     Executes (asks u .a 0x11 [1, 0]) .a ⟨0x11, 5, 1, [1, 0]⟩ (.closeIntent k0) ∧
     ((asks u .a 0x11 [1, 0]).grantStart .a |>.readSlot 0 {}).entryAt 0 = some (body .opened (some ⟨1, 1⟩) none 1)) ∧
    (let y := demo.setSession .a { demo.session .a with state := .draining, holdings := 1, adoptions := 0 }
     (y.session .a).state = .draining ∧ (y.session .a).holdings ≤ 1 ∧ (y.session .a).adoptions = 0) := by
  simp only [Executes, Granted]
  decide

theorem witness_LookupNamesTheEntry : Lawful demo ∧ demo.lookup k0 = some 0 ∧ demo.lookup kNew = none :=
  ⟨witness_lawful_demo, by decide, by decide⟩

theorem witness_KeysWithoutAnEntryAreNotFound :
    Executes (asks demo .a 0x11 [255, 9]) .a ⟨0x11, 5, 1, [255, 9]⟩ (.closeIntent kNew) ∧ demo.lookup kNew = none ∧
    Executes (asks demo .a 0x12 [255, 9]) .a ⟨0x12, 5, 1, [255, 9]⟩ (.query kNew) ∧
    Executes (asks demo .a 0x21 [255, 9]) .a ⟨0x21, 5, 1, [255, 9]⟩ (.resolve kNew) ∧
    (let s := asks demo .a 0x11 [1, 2]
     Executes s .a ⟨0x11, 5, 1, [1, 2]⟩ (.closeIntent k2) ∧ s.lookup k2 = some 2 ∧
     ((s.grantStart .a).readSlot 2 {}).entryAt 2 = some (body .orphan none none 3 none true [7, 8])) := by
  simp only [Executes, Granted]
  decide

theorem witness_QueryReportsTheEntry :
    let s := asks demo .a 0x12 [1, 2]
    let e := body .orphan none none 3 none true [7, 8]
    Executes s .a ⟨0x12, 5, 1, [1, 2]⟩ (.query k2) ∧ s.lookup k2 = some 2 ∧ ((s.grantStart .a).readSlot 2 {}).entryAt 2 = some e ∧
    holdCount e.holdA ≤ 15 ∧ e.note.length ≤ 2 ∧ holdCount (body .opened (some ⟨15, 1⟩) none 1).holdA ≤ 15 := by
  simp only [Executes, Granted]
  decide

/-- An orphan whose read stands, and one whose read loses the entry. -/
theorem witness_AdoptTakesFromTheHead :
    Executes (asks demo .a 0x20) .a ⟨0x20, 5, 1, []⟩ .adopt ∧ demo.engine.state = .ready ∧ (demo.session .a).state = .attached ∧
    demo.journal.orphans = ⟨k2, 3⟩ :: [] ∧ demo.lookup k2 = some 2 ∧
    (demo.readSlot 2 {}).entryAt 2 = some (body .orphan none none 3 none true [7, 8]) ∧
    (demo.readSlot 2 { keys := some ⟨.freeMarker, .key k0, .key k1⟩ }).entryAt 2 = none := by
  simp only [Executes, Granted]
  decide

theorem witness_ResolveRemovesAnAdoptedEntry :
    let s := asks demo .a 0x21 [1, 3]
    Executes s .a ⟨0x21, 5, 1, [1, 3]⟩ (.resolve k3) ∧ s.lookup k3 = some 3 ∧
    ((s.grantStart .a).readSlot 3 {}).entryAt 3 = some (body .adopted none none 4 (some ⟨.a, 1⟩)) ∧ demo.isOpen .a = true ∧
    (let t := asks demo .a 0x21 [1, 4]
     Executes t .a ⟨0x21, 5, 1, [1, 4]⟩ (.resolve k4) ∧
     ((t.grantStart .a).readSlot 4 {}).entryAt 4 = some (body .orphan none none 5)) ∧
    (let y := demo.setSession .a { demo.session .a with state := .draining, holdings := 0, adoptions := 1 }
     (y.session .a).state = .draining ∧ (y.session .a).adoptions ≤ 1 ∧ (y.session .a).holdings = 0) := by
  simp only [Executes, Granted]
  decide

theorem witness_SessionTimersEndSessions :
    (demo.session .a).lapseTimer.isSome = true ∧ (demo.session .a).lapseMark = false ∧ (demo.session .b).lapseTimer = none ∧
    (let s := demo.setSession .a { demo.session .a with lapseMark := true, state := .draining, drainTimer := some 0 }
     (s.session .a).drainTimer.isSome = true ∧ (s.session .a).lapseTimer.isSome = true ∧ (s.session .a).lapseMark = true ∧
     after (.lapseTimerExpiry .a) s (fun t => decide ((t.session .a).state = .fenced)) = true) := by
  decide

/-- All four flags set at an open port with 13 frames waiting: three frames fit. -/
def pendingFlags : State :=
  { demo.setLink .a { demo.link .a with outbound := List.replicate 13 (.notice .peerAttached 1 0 none) } with
    notices := { flags := ⟨⟨some (some 1), some (some 2), some none, some none⟩, {}⟩, repeatTimer := some 0 } }

theorem witness_RepeatTimerSendsEverySetKind :
    calm.notices.repeatTimer = none ∧ Lawful pendingFlags ∧ pendingFlags.notices.repeatTimer.isSome = true ∧
    after .repeatTimerExpiry pendingFlags (fun t => decide ((t.link .a).outbound.length = 16)) = true :=
  ⟨by decide, lawful_of_checks (by decide) (by decide), by decide, by decide⟩

theorem witness_LeakAndScrubPaceExpire :
    demo.integrity.leakTimer.isSome = true ∧ demo.engine.state ≠ .initializing ∧ demo.arbiter.scrubTimer.isSome = true ∧
    State.reset.integrity.leakTimer = none ∧ State.reset.arbiter.scrubTimer = none := by decide

/-- Slot 0 read clean, with a correction below the threshold and at it; slot 128, pooled no more, read with both corrections. -/
theorem witness_ReadsVoteAndRepair :
    demo.readOutcome 0 {} = ⟨.agree, .clean⟩ ∧ demo.readOutcome 0 { ecc := some .corrected } = ⟨.agree, .corrected⟩ ∧
    demo.readOutcome 128 { keys := some ⟨.freeMarker, .key k0, .freeMarker⟩, ecc := some .corrected } = ⟨.oneOff, .corrected⟩ ∧
    (demo.block 0).bucket + 1 < demo.settings.bucketThreshold ∧ demo.retirementCount < 4 ∧
    (let s : State := { demo with integrity := { demo.integrity with
       blocks := demo.integrity.blocks.setIfInBounds 0 { bucket := 7 } } }
     (s.block 0).bucket + 1 = s.settings.bucketThreshold ∧ (s.block 0).state = .inService) ∧
    (let s : State := { demo with integrity := { demo.integrity with
       blocks := ((demo.integrity.blocks.setIfInBounds 5 { state := .retired }).setIfInBounds 6 { state := .retired }).setIfInBounds 7
         { state := .retired } } }
     4 ≤ s.retirementCount) := by decide

/-- The count of retirements at its limit (R155, R163). -/
def fourRetired : State :=
  let b := calm.integrity.blocks
  let b := (b.setIfInBounds 5 { state := .retired }).setIfInBounds 6 { state := .retired }
  { calm with integrity := { calm.integrity with
      blocks := (b.setIfInBounds 7 { state := .retired }).setIfInBounds 8 { state := .retired } } }

/-- Four RETIRED blocks; the last entry of the block in progress lost; a pooled slot lost while another block is in progress; a body
lost with an empty orphan list, and with raises held. -/
theorem witness_LostReadsRemoveOrDamage :
    (4 ≤ fourRetired.retirementCount ∧ (fourRetired.block 0).state = .inService ∧ 0 ∉ fourRetired.integrity.retireQueue) ∧
    (demo.inProgress = some (64 / 64) ∧ demo.integrity.retireQueue = [] ∧ demo.assoc 64 ≠ none ∧ demo.integrity.reserve ≤ 1 ∧
      demo.readOutcome 64 { keys := some ⟨.freeMarker, .key k1, .key k2⟩ } = ⟨.split, .clean⟩) ∧
    (let w : SlotWear := { keys := some ⟨.key k0, .key k1, .freeMarker⟩ }
     let y := (demo.putSlot 8 (w.onto (demo.stored 8))).judgeRead 8 (demo.readOutcome 8 w)
     demo.readOutcome 8 w = ⟨.split, .clean⟩ ∧ 8 ∈ y.journal.pool ∧ y.closingDue = false ∧ 0 < y.integrity.reserve) ∧
    ({ demo with journal := { demo.journal with orphans := [] } } : State).journal.orphans = [] ∧ demo.holdNotices.notices.held = some [] ∧
    demo.journal.index.wf = true ∧ (demo.block 0).state ≠ .retired ∧ demo.assoc 0 ≠ none ∧ demo.assoc 128 = none ∧
    demo.readOutcome 0 { keys := some ⟨.freeMarker, .key k1, .key k2⟩ } = ⟨.split, .clean⟩ ∧
    demo.readOutcome 128 { keys := some ⟨.key k0, .key k0, .freeMarker⟩ } = ⟨.mismatch, .clean⟩ ∧
    demo.readOutcome 0 { ecc := some .uncorrectable } = ⟨.agree, .uncorrectable⟩ ∧
    demo.readOutcome 128 { ecc := some .uncorrectable } = ⟨.agree, .uncorrectable⟩ := by decide

/-- An entry with one dead hold, one with none, one left without a hold, one with a dead adopter. -/
theorem witness_TouchedEntriesConvert :
    demo.keyAt 1 = some k1 ∧ demo.entryAt 1 = some (body .opened (some ⟨1, 1⟩) (some ⟨1, 1⟩) 2) ∧
    (demo.convertOnTouch 1).entryAt 1 = some (body .opened (some ⟨1, 1⟩) none 2 none true) ∧
    demo.convertOnTouch 0 = demo ∧
    (let s := demo.setSession .a { demo.session .a with state := .detached }
     (s.convertOnTouch 0).entryAt 0 = some (body .orphan none none 1 none true)) ∧
    (demo.convertOnTouch 4).entryAt 4 = some (body .orphan none none 5) ∧
    (let s : State := { demo with journal := { demo.journal with orphans := [] } }
     s.journal.orphans = [] ∧ s.notices.held = none ∧ s.holdNotices.notices.held = some [] ∧
     ((s.convertOnTouch 4).link .a).outbound = [.notice .orphansPresent 1 0 (some 1)]) := by decide

/-- A due scrub whose position stands in a RETIRED block; a sweep at its last slot; a sweep at a slot that is not live. -/
def walking : State :=
  { calm with
    arbiter := { scrubDue := true }
    integrity := { calm.integrity with blocks := (Vector.replicate 16 {}).setIfInBounds 15 { state := .retired }, scrubPosition := 1023 }
    sweeper := { pending := true, position := 0, endMarker := 1 } }

theorem witness_ScrubberAndSweeperWalkTheSlots :
    Lawful walking ∧ walking.nextGrant = some .scrubber ∧ walking.beginScrub.scrubSlot = 0 ∧
    Lawful { calm with sweeper := { pending := true, position := 0, endMarker := 1 } } ∧
    ({ calm with sweeper := { pending := true, position := 0, endMarker := 1 } } : State).nextGrant = some (.place .sweeper) ∧
    ({ calm with sweeper := { pending := true, position := 1023, endMarker := 0 } } : State).condition 1023 ≠ .live ∧
    (let s : State := { calm with sweeper := { pending := true, position := 1023 }, arbiter := { scrubTimer := some 1000, sweepRequest := true } }
     Lawful s ∧ s.nextGrant = some (.place .sweeper) ∧ s.condition s.sweeper.position ≠ .live) :=
  ⟨lawful_of_checks (by decide) (by decide), by decide, by decide, lawful_of_checks (by decide) (by decide), by decide, by decide,
   lawful_of_checks (by decide) (by decide), by decide, by decide⟩

/-- The demonstration state with a second live entry in the block in progress. -/
def demoTwo : State :=
  let s := demo.entryWrite 65 kNew (body .opened (some ⟨1, 1⟩) none 7)
  { s with journal := { s.journal with stamp := 8 }, integrity := { s.integrity with reserve := 2 } }

/-- The last entry of a block, one before the last, and an entry that the read loses. -/
theorem witness_RelocationMovesAnEntry :
    (Lawful demoTwo ∧ demoTwo.nextGrant = some (.place .relocator) ∧
      (let v := (demoTwo.beginGrant .relocator).readSlot 64 {}
       v.entryAt 64 = some (body .opened (some ⟨1, 1⟩) none 6 none true) ∧ v.journal.pool = 8 :: [9] ∧ 1 < v.integrity.reserve)) ∧
    Lawful demo ∧ demo.nextGrant = some (.place .relocator) ∧
    (let v := (demo.beginGrant .relocator).readSlot 64 {}
     v.entryAt 64 = some (body .opened (some ⟨1, 1⟩) none 6 none true) ∧ v.journal.pool = 8 :: [9] ∧ v.integrity.reserve = 1 ∧
     v.integrity.retireQueue = []) ∧
    ((demo.beginGrant .relocator).readSlot 64 { keys := some ⟨.freeMarker, .key k0, .key k1⟩ }).entryAt 64 = none :=
  ⟨⟨lawful_of_checks (by decide) (by decide), by decide, by decide⟩, witness_lawful_demo, by decide, by decide, by decide⟩

/-- The last slot, with a block queued by a lowered threshold. -/
def lastQueued : State :=
  { State.reset with
    engine := { State.reset.engine with initPos := 1023 }
    integrity := { State.reset.integrity with retireQueue := [15] } }

theorem test_last_write_enters_closing :
    after .initialiserWrite lastQueued (fun t => decide ((t.block 15).state = .retired ∧ t.journal.pool = [] ∧
      t.integrity.retireQueue = [] ∧ t.engine.state = .ready)) = true := by decide

/-- The first slot, the last slot with a freeze remembered and with a queued block, the last slot of a RETIRED block. -/
theorem witness_InitialiserFillsThePool :
    (Lawful { State.reset with freeCount := 1 } ∧ State.reset.nextGrant = some (.place .initialiser)) ∧
    (let s : State := { State.reset with engine := { State.reset.engine with initPos := 1023, rememberedFreeze := true } }
     Lawful s ∧ s.nextGrant = some (.place .initialiser)) ∧
    (let s : State := { State.reset with
       engine := { State.reset.engine with initPos := 1023 }
       integrity := { blocks := (Vector.replicate 16 {}).setIfInBounds 15 { state := .retired } } }
     Lawful s ∧ s.engine.state = .initializing ∧ (s.block (1023 / 64)).state = .retired ∧
       s.engine.rememberedFreeze = false ∧ s.integrity.retireQueue = [] ∧
       ({ s with engine := { s.engine with rememberedFreeze := true } } : State).engine.rememberedFreeze = true) ∧
    (Lawful lastQueued ∧ lastQueued.nextGrant = some (.place .initialiser) ∧ lastQueued.integrity.retireQueue = 15 :: []) :=
  ⟨⟨lawful_of_checks (by decide) (by decide), by decide⟩, ⟨lawful_of_checks (by decide) (by decide), by decide⟩,
   ⟨lawful_of_checks (by decide) (by decide), by decide, by decide, by decide, by decide, by decide⟩,
   ⟨lawful_of_checks (by decide) (by decide), by decide, by decide⟩⟩

/-- Both ends of a range, a value held, an unknown number, a lowered threshold with a block at it. -/
theorem witness_SettingsAreReadAndWritten :
    demo.service.target ≠ .busy ∧ SettingName.ofNumber 13 = none ∧ SettingName.ofNumber 0 = none ∧
    SettingName.ofNumber 12 = some .alertEnable ∧ SettingName.ofNumber 8 = some .bucketThreshold ∧
    SettingName.bucketThreshold.bounds = (1, 15) ∧ (0 : Half).toNat < SettingName.bucketThreshold.bounds.1 ∧
    SettingName.bucketThreshold.bounds.2 < (16 : Half).toNat ∧ demo.settings.get .bucketThreshold = 8 ∧
    demo.settings.get .scrubPace ≠ 0 ∧ demo.engine.state ≠ .initializing := by decide

theorem witness_ViewsAndIdentityAreLaidOut : demo.service.target ≠ .busy ∧ 5 < (6 : Byte).toNat := by decide

theorem witness_ServicePortFencesAndUnfences :
    demo.service.target ≠ .busy ∧ (2 : Byte).toNat = 2 ∧ (1 : Byte).toNat = 1 ∧ (demo.session .b).state ≠ .fenced ∧
    ((demo.setSession .b { demo.session .b with state := .fenced, fenceLine := true }).session .b).state = .fenced := by decide

theorem witness_ClearFaultsEmptiesNamedClasses : demo.service.target ≠ .busy ∧ (31 : Byte).toNat < 32 ∧ 32 ≤ (32 : Byte).toNat := by
  decide

/-- A write to a BUSY port; 14 and 15 parameter bytes; a wrong count; an unknown code; a WARM_RESET of another option. -/
theorem witness_ServiceWritesAreJudged :
    (waits demo .freeze).service.target = .busy ∧ writeOf .identify = some [0x05, 0x00] ∧ demo.service.target ≠ .busy ∧
    14 < (List.replicate 15 (0 : Byte)).length ∧ (List.replicate 14 (0 : Byte)).length = (14 : Byte).toNat ∧
    paramLength 0x77 = none ∧ paramLength 0x05 = some 0 ∧ paramLength 0x31 = some 1 ∧ (3 : Byte) ≠ 1 ∧
    (0x59#7 : BitVec 7) ≠ demo.service.address ∧ (demo.busStart 0x58#7 .write).2.service.target = .receiving ∧
    (demo.busStart 0x58#7 .read).2.service.target = .sending ∧ (List.replicate 16 (0 : Byte)).length = 16 := by
  refine ⟨by decide, rfl, by decide, by decide, by decide, by decide, by decide, by decide, by decide, by decide, by decide, by decide,
    by decide⟩

theorem witness_FreezeAndThawMoveTheEngine :
    (waits calm .freeze).grantedService = some .freeze ∧ (waits calm .thaw).grantedService = some .thaw ∧
    (let s : State := { waits calm .thaw with engine := { calm.engine with state := .frozen } }
     s.grantedService = some .thaw ∧ s.engine.state = .frozen) ∧
    (let s : State := { State.reset with engine := { State.reset.engine with rememberedFreeze := true } }
     (waits s .thaw).grantedService = some .thaw ∧ s.engine.state = .initializing) ∧
    Lawful demo ∧ demo.engine.state = .ready ∧ demo.inProgress = some 1 ∧ 0 < demo.integrity.reserve ∧ calm.inProgress = none ∧
    due.integrity.retireQueue = 0 :: [] :=
  ⟨by decide, by decide, by decide, by decide, witness_lawful_demo, by decide, by decide, by decide, by decide, by decide⟩

/-- Blocks 15 and 16, a block in progress, a count of four, a count below it with and without a block in progress. -/
theorem witness_RetireBlockQueuesOrCloses :
    (waits calm (.retireBlock 15)).grantedService = some (.retireBlock 15) ∧
    (waits demo (.retireBlock 16)).grantedService = some (.retireBlock 16) ∧ 16 ≤ (16 : Byte).toNat ∧
    (((waits demo (.retireBlock 1)).beginGrant .service).block 1).state ≠ .inService ∧
    (let u := (waits calm (.retireBlock 15)).beginGrant .service
     u.inProgress = none ∧ u.integrity.retireQueue = [] ∧ u.retirementCount < 4 ∧ (u.block 15).state = .inService) ∧
    ((waits demo (.retireBlock 15)).beginGrant .service).inProgress.isSome = true ∧ demo.grantedService = none ∧
    (let s := waits fourRetired (.retireBlock 15)
     s.grantedService = some (.retireBlock 15) ∧ (s.beginGrant .service).retirementCount = 4) ∧
    (let s := waits { calm with engine := { calm.engine with state := .frozen } } (.retireBlock 0)
     s.grantedService = some (.retireBlock 0) ∧ s.engine.state = .frozen ∧ (s.beginGrant .service).retirementCount < 4) ∧
    ((waits State.reset (.retireBlock 0)).grantedService = some (.retireBlock 0) ∧ State.reset.engine.state = .initializing) ∧
    ((calm.beginGrant .service).liveInBlock 0 = 5 ∧ (calm.beginGrant .service).liveInBlock 15 = 0) := by decide

theorem witness_ReadSlotReportsTheSlot :
    (waits calm (.readSlot 1023)).grantedService = some (.readSlot 1023) ∧ 1024 ≤ (1024 : Half).toNat ∧
    calm.engine.state ≠ .initializing ∧ (waits calm (.readSlot 1024)).grantedService = some (.readSlot 1024) ∧
    ((waits State.reset (.readSlot 0)).grantedService = some (.readSlot 0) ∧ State.reset.engine.state = .initializing) ∧
    (let u := (waits calm (.readSlot 0)).beginGrant .service
     (u.readRaw 0 {}).keyAt 0 = some k0 ∧ (u.readRaw 0 {}).entryAt 0 = some (body .opened (some ⟨15, 1⟩) none 1)) ∧
    (let u := (waits calm (.readSlot 128)).beginGrant .service
     (u.readRaw 128 {}).keyAt 128 = none) := by decide

end Sys2Proof.Tests
end

section
/-! PROOFS. The law of request queues and reply caches (R116): every step keeps it. A step admits a received frame (R104), answers the
head of a queue (R107), empties the links (R121), or adds nothing to a queue or a cache; `QueueEvent` says so once for every command,
and the law is shown for each of the four. -/

namespace Sys2Proof.Machine

/-! One link -/

/-- R116 for one port's link. -/
def Link.QueuesOk (l : Link) : Prop :=
  l.requests.length ≤ 8 ∧ l.cache.length ≤ 8 ∧ l.queued.Nodup ∧ l.cached.Nodup ∧ ∀ n ∈ l.queued, n ∉ l.cached

theorem linkLaw_iff (s : State) : LinkLaw s ↔ ∀ q, (s.links.get q).QueuesOk := Iff.rfl

theorem Link.queuesOk_default : ({} : Link).QueuesOk := by simp [Link.QueuesOk, Link.queued, Link.cached]

/-- Taking requests and replies away keeps the law. -/
theorem Link.QueuesOk.mono {l m : Link} (h : l.QueuesOk) (hr : m.requests.Sublist l.requests) (hc : m.cache.Sublist l.cache) :
    m.QueuesOk := by
  obtain ⟨hrLen, hcLen, hrDistinct, hcDistinct, hDisjoint⟩ := h
  have hq : m.queued.Sublist l.queued := hr.map _
  have hk : m.cached.Sublist l.cached := hc.map _
  exact ⟨Nat.le_trans hr.length_le hrLen, Nat.le_trans hc.length_le hcLen, hrDistinct.sublist hq, hcDistinct.sublist hk,
    fun n hn hn' => hDisjoint n (hq.subset hn) (hk.subset hn')⟩

/-- A request with a fresh sequence number joins a queue that is not full. -/
theorem Link.QueuesOk.push {l : Link} (h : l.QueuesOk) {r : Request} (hLen : l.requests.length < 8) (hq : r.seq ∉ l.queued)
    (hc : r.seq ∉ l.cached) : Link.QueuesOk { l with requests := l.requests ++ [r] } := by
  obtain ⟨_, hcLen, hrDistinct, hcDistinct, hDisjoint⟩ := h
  have hqueued : Link.queued { l with requests := l.requests ++ [r] } = l.queued ++ [r.seq] := by simp [Link.queued]
  refine ⟨by rw [List.length_append]; exact hLen, hcLen, ?_, hcDistinct, ?_⟩
  · rw [hqueued]
    exact List.nodup_append.2 ⟨hrDistinct, by simp, by rintro a ha b hb rfl; simp_all⟩
  · rw [hqueued]
    intro n hn
    rcases List.mem_append.1 hn with hn | hn
    · exact hDisjoint n hn
    · rw [List.mem_singleton.1 hn]
      exact hc

/-- Caching a reply takes at most the oldest away, keeps room for it, and puts it behind the others (R111). -/
theorem cachePush_eq (c : List Reply) (x : Reply) (h : c.length ≤ 8) :
    ∃ kept : List Reply, kept.Sublist c ∧ kept.length < 8 ∧ cachePush c x = kept ++ [x] := by
  unfold cachePush Config.cacheDepth
  split
  · exact ⟨c.tail, c.tail_sublist, by rw [List.length_tail]; omega, rfl⟩
  · exact ⟨c, .refl c, by omega, rfl⟩

/-- The head of the queue leaves it for its cached reply: its number is distinct from every other in the queue and in the cache. -/
theorem Link.QueuesOk.answerHead {l m : Link} (h : l.QueuesOk) {r : Request} {rest : List Request} {x : Reply}
    (hHead : l.requests = r :: rest) (hx : x.seq = r.seq) (hr : m.requests = rest) (hc : m.cache = cachePush l.cache x) :
    m.QueuesOk := by
  have hm : Link.QueuesOk { l with requests := rest } := h.mono (by rw [hHead]; exact List.sublist_cons_self r rest) (.refl _)
  obtain ⟨hrLen, hcLen, hrDistinct, hcDistinct, hDisjoint⟩ := hm
  obtain ⟨kept, hSub, hKept, hPush⟩ := cachePush_eq l.cache x hcLen
  have hk : (kept.map Reply.seq).Sublist l.cached := hSub.map _
  have hcached : m.cached = kept.map Reply.seq ++ [r.seq] := by simp [Link.cached, hc, hPush, hx]
  have hqueued : m.queued = rest.map Request.seq := by rw [Link.queued, hr]
  have hFresh : r.seq ∉ rest.map Request.seq ∧ r.seq ∉ l.cached := by
    obtain ⟨_, _, hd, _, hj⟩ := h
    have hq : l.queued = r.seq :: rest.map Request.seq := by simp [Link.queued, hHead]
    rw [hq] at hd hj
    exact ⟨(List.nodup_cons.1 hd).1, hj r.seq (List.mem_cons_self ..)⟩
  refine ⟨by rwa [hr], by rw [hc, hPush, List.length_append]; exact hKept, by rw [hqueued]; exact hrDistinct, ?_, ?_⟩
  · rw [hcached]
    refine List.nodup_append.2 ⟨hcDistinct.sublist hk, by simp, ?_⟩
    rintro a ha b hb rfl
    exact hFresh.2 (hk.subset (List.mem_singleton.1 hb ▸ ha))
  · rw [hqueued, hcached]
    intro n hn hn'
    rcases List.mem_append.1 hn' with hn' | hn'
    · exact hDisjoint n hn (hk.subset hn')
    · exact hFresh.1 (List.mem_singleton.1 hn' ▸ hn)

/-! What adds nothing to a queue or a cache -/

/-- From `s` to `t` every port's request queue stands, and its reply cache has taken nothing in. -/
def QueuesKept (s t : State) : Prop := ∀ q,
  (t.links.get q).requests = (s.links.get q).requests ∧ (t.links.get q).cache.Sublist (s.links.get q).cache

theorem QueuesKept.refl (s : State) : QueuesKept s s := fun _ => ⟨rfl, .refl _⟩

theorem QueuesKept.trans {s t u : State} (h : QueuesKept s t) (h' : QueuesKept t u) : QueuesKept s u :=
  fun q => ⟨(h' q).1.trans (h q).1, (h' q).2.trans (h q).2⟩

/-- What leaves the links alone keeps their queues. -/
theorem QueuesKept.of_links {s t : State} (h : t.links = s.links) : QueuesKept s t := by
  intro q
  rw [h]
  exact ⟨rfl, .refl _⟩

/-- What gives a port another link with the same requests, and nothing new in its cache, keeps the queues. -/
theorem QueuesKept.setLink {s : State} {p : Port} {l : Link} (hr : l.requests = (s.links.get p).requests)
    (hc : l.cache.Sublist (s.links.get p).cache) : QueuesKept s (s.setLink p l) := by
  intro q
  rw [setLink_links, PerPort.get_set]
  split
  · next hq => rw [hq]; exact ⟨hr, hc⟩
  · exact ⟨rfl, .refl _⟩

/-- A run of operations that each keep the queues keeps them. -/
theorem QueuesKept.foldl {α : Type} {f : State → α → State} (hf : ∀ t x, QueuesKept t (f t x)) (l : List α) (s : State) :
    QueuesKept s (l.foldl f s) := by
  induction l generalizing s with
  | nil => exact .refl s
  | cons x rest ih => exact (hf s x).trans (ih (f s x))

theorem queuesKept_finish (s : State) : QueuesKept s s.finish := by simp [QueuesKept]

theorem queuesKept_readSlot (s : State) (n : Nat) (w : SlotWear) : QueuesKept s (s.readSlot n w) := by simp [QueuesKept]

/-! Session requests -/

theorem queuesKept_detachGracefully (s : State) (p : Port) : QueuesKept s (s.detachGracefully p) := by simp [QueuesKept]

theorem queuesKept_fencePort (s : State) (p : Port) (cause : Word) (kind : FaultKind) :
    QueuesKept s (s.fencePort p cause kind) := by simp [QueuesKept]

/-- A new session empties its port's reply cache (R114). -/
theorem queuesKept_openSession (s : State) (p : Port) : QueuesKept s (s.openSession p) := by
  have hClear : QueuesKept s (s.setLink p { s.link p with cache := [] }) := .setLink rfl (List.nil_sublist _)
  refine hClear.trans fun q => ?_
  simp [State.openSession]

theorem queuesKept_runAttach (p : Port) (i : Word) (s : State) : QueuesKept s (State.runAttach p i s).2 := by
  unfold State.runAttach
  split
  · exact .refl s
  · split
    · exact .refl s
    · have hEnd : QueuesKept s (if s.isOpen p then s.endSession p .detached else s) := by
        split
        · exact .of_links (endSession_frame s p .detached).1
        · exact .refl s
      exact hEnd.trans (queuesKept_openSession _ p)

theorem queuesKept_runDetachGraceful (p : Port) (s : State) : QueuesKept s (State.runDetachGraceful p s).2 := by
  unfold State.runDetachGraceful
  dsimp only
  split
  · split
    · exact queuesKept_detachGracefully s p
    · exact .of_links rfl
  · exact .refl s

theorem queuesKept_runDetachAbrupt (p : Port) (s : State) : QueuesKept s (State.runDetachAbrupt p s).2 := by
  simp [QueuesKept, State.runDetachAbrupt]

theorem queuesKept_runFencePeer (p : Port) (s : State) : QueuesKept s (State.runFencePeer p s).2 := by
  unfold State.runFencePeer
  split
  · exact .refl s
  split
  · exact .refl s
  split
  · exact .refl s
  split
  · exact .refl s
  · exact queuesKept_fencePort s p.other _ _

theorem queuesKept_runAckNotice (p : Port) (k : NoticeKind) (s : State) : QueuesKept s (State.runAckNotice p k s).2 := by
  unfold State.runAckNotice
  dsimp only
  split
  · exact .of_links (setFlag_frame s p k none).1
  · exact .refl s

/-! Journal requests -/

theorem queuesKept_refuseQuota (s : State) (p : Port) (k : RegionKey) : QueuesKept s (s.refuseQuota p k).2 :=
  .of_links (capture_frame s _).1

theorem queuesKept_refuseFull (s : State) (p : Port) (k : RegionKey) : QueuesKept s (s.refuseFull p k).2 :=
  .of_links (capture_frame s _).1

theorem queuesKept_createEntry (s : State) (p : Port) (k : RegionKey) (note : List Word) :
    QueuesKept s (s.createEntry p k note).2 := by
  unfold State.createEntry
  split
  · exact queuesKept_refuseQuota s p k
  split
  · exact queuesKept_refuseFull s p k
  split
  · exact queuesKept_refuseFull s p k
  split
  · exact queuesKept_refuseFull s p k
  · simp [QueuesKept]

theorem queuesKept_joinEntry (s : State) (p : Port) (k : RegionKey) (note : List Word) (n : Nat) (e : EntryBody) :
    QueuesKept s (s.joinEntry p k note n e).2 := by
  unfold State.joinEntry
  split
  · exact .refl s
  · exact .refl s
  · split
    · split
      · exact .of_links (bodyWrite_frame s n _).1
      · exact .refl s
    · split
      · exact queuesKept_refuseQuota s p k
      · simp [QueuesKept]

theorem queuesKept_runOpen (p : Port) (k : RegionKey) (note : List Word) (w : SlotWear) (s : State) :
    QueuesKept s (State.runOpen p k note w s).2 := by
  unfold State.runOpen
  split
  · exact .refl s
  split
  · exact .refl s
  split
  · exact queuesKept_createEntry s p k note
  · next n _ =>
    refine (queuesKept_readSlot s n w).trans ?_
    dsimp only
    split
    · exact queuesKept_joinEntry _ p k note n _
    · exact queuesKept_createEntry _ p k note

theorem queuesKept_closeHold (s : State) (p : Port) (k : RegionKey) (n : Nat) (e : EntryBody) (x : Held) :
    QueuesKept s (s.closeHold p k n e x).2 := by
  unfold State.closeHold
  split
  · simp [QueuesKept]
  split
  · simp [QueuesKept]
  split
  · simp [QueuesKept]
  · simp [QueuesKept]

theorem queuesKept_runClose (p : Port) (k : RegionKey) (w : SlotWear) (s : State) :
    QueuesKept s (State.runClose p k w s).2 := by
  unfold State.runClose
  split
  · exact .refl s
  · next n _ =>
    refine (queuesKept_readSlot s n w).trans ?_
    dsimp only
    split
    · exact .refl _
    · split
      · exact .refl _
      · exact queuesKept_closeHold _ p k n _ _

theorem queuesKept_runQuery (k : RegionKey) (w : SlotWear) (s : State) : QueuesKept s (State.runQuery k w s).2 := by
  unfold State.runQuery
  split
  · exact .refl s
  · next n _ =>
    dsimp only
    split
    · exact queuesKept_readSlot s n w
    · exact queuesKept_readSlot s n w

theorem queuesKept_takeOrphan (s : State) (p : Port) (k : RegionKey) (n : Nat) (e : EntryBody) :
    QueuesKept s (s.takeOrphan p k n e) := by simp [QueuesKept, State.takeOrphan]

theorem queuesKept_dropOrphan (s : State) (k : RegionKey) : QueuesKept s (s.dropOrphan k) := .of_links (dropOrphan_frame s k).1

theorem queuesKept_adoptLoop (p : Port) (fuel room : Nat) (ws : List SlotWear) (s : State) :
    QueuesKept s (State.adoptLoop p fuel room ws s).2 := by
  induction fuel generalizing room ws s with
  | zero => exact .refl s
  | succ fuel ih =>
    cases room with
    | zero => exact .refl s
    | succ room =>
      unfold State.adoptLoop
      split
      · exact .refl s
      · next o _ _ =>
        split
        · exact (queuesKept_dropOrphan s o.key).trans (ih _ _ _)
        · next n _ =>
          refine (queuesKept_readSlot s n (ws.headD {})).trans ?_
          dsimp only
          split
          · exact (queuesKept_dropOrphan _ o.key).trans (ih _ _ _)
          · exact (queuesKept_takeOrphan _ p o.key n _).trans (ih _ _ _)

theorem queuesKept_runAdopt (p : Port) (ws : List SlotWear) (s : State) : QueuesKept s (State.runAdopt p ws s).2 := by
  unfold State.runAdopt
  split
  · exact .refl s
  split
  · exact .refl s
  · exact queuesKept_adoptLoop p _ _ ws s

theorem queuesKept_runResolve (p : Port) (k : RegionKey) (w : SlotWear) (s : State) :
    QueuesKept s (State.runResolve p k w s).2 := by
  unfold State.runResolve
  split
  · exact .refl s
  · next n _ =>
    refine (queuesKept_readSlot s n w).trans ?_
    dsimp only
    split
    · exact .refl _
    · split
      · simp [QueuesKept]
      · exact .refl _

/-! The part's own engines -/

theorem queuesKept_moveEntry (s : State) (n : Nat) (a : Association) (e : EntryBody) : QueuesKept s (s.moveEntry n a e) := by
  unfold State.moveEntry
  split
  · exact .refl s
  · simp [QueuesKept]

theorem queuesKept_relocate (s : State) (b : Nat) (w : SlotWear) : QueuesKept s (s.relocate b w) := by
  unfold State.relocate
  split
  · exact .refl s
  · next n _ =>
    refine (queuesKept_readSlot s n w).trans ?_
    dsimp only
    split
    · exact queuesKept_moveEntry _ n _ _
    · exact .refl _

theorem queuesKept_advanceInit (s : State) : QueuesKept s s.advanceInit := by
  unfold State.advanceInit State.endInitialisation State.startScrubTimer
  dsimp only
  split
  · split
    · simp [QueuesKept]
    · exact .of_links rfl
  · exact .of_links rfl

/-! The service port -/

/-- A write of the service port, whatever its bytes, leaves the links alone. -/
theorem queuesKept_write {s t : State} {bytes : List Byte} (h : s.write bytes = some t) : QueuesKept s t := by
  by_cases hBusy : s.service.target = .busy
  · rw [write_of_busy bytes hBusy] at h
    cases h
  · rw [write_eq bytes hBusy] at h
    obtain rfl := Option.some.inj h
    exact .of_links (stopWrite_frame _).1

theorem queuesKept_complete (s : State) (x : ServiceResult) : QueuesKept s (s.complete x) := .of_links (complete_frame s x).1

theorem queuesKept_serviceEvent {run : State → ServiceResult × State} (hrun : ∀ u, QueuesKept u (run u).2) (s : State)
    (code : Byte) (params : List Byte) : QueuesKept s (s.serviceEvent code params run) := by
  unfold State.serviceEvent
  split
  · exact .refl s
  · next t ht =>
    refine (queuesKept_write ht).trans ?_
    split
    · exact (hrun t).trans (queuesKept_complete _ _)
    · exact .refl t

theorem queuesKept_beginGrant (s : State) (pl : Place) : QueuesKept s (s.beginGrant pl) := by simp [QueuesKept]

theorem queuesKept_serviceGrant {run : State → ServiceResult × State} (hrun : ∀ u, QueuesKept u (run u).2) (s : State) :
    QueuesKept s (s.serviceGrant run) := by
  unfold State.serviceGrant
  exact (((queuesKept_beginGrant s .service).trans (hrun _)).trans (queuesKept_complete _ _)).trans (queuesKept_finish _)

theorem queuesKept_runGetSetting (number : Byte) (s : State) : QueuesKept s (State.runGetSetting number s).2 := by
  unfold State.runGetSetting
  split
  · exact .refl s
  · exact .refl s

theorem queuesKept_retestBuckets (s : State) : QueuesKept s s.retestBuckets := by
  refine .foldl (fun t b => ?_) _ s
  split
  · exact .of_links (queueBlock_frame t b).1
  · exact .refl t

theorem queuesKept_changeScrubPace (s : State) (old new : Nat) : QueuesKept s (s.changeScrubPace old new) := by
  unfold State.changeScrubPace
  split
  · exact .of_links rfl
  · split
    · exact .of_links rfl
    · exact .refl s

theorem queuesKept_applySetting (s : State) (n : SettingName) (old new : Nat) : QueuesKept s (s.applySetting n old new) := by
  cases n with
  | bucketThreshold =>
    unfold State.applySetting
    dsimp only
    split
    · exact queuesKept_retestBuckets s
    · exact .refl s
  | scrubPace => exact queuesKept_changeScrubPace s old new
  | alertEnable => exact .of_links (judgeAlert_frame s).1
  | _ => exact .refl s

theorem queuesKept_runSetSetting (number : Byte) (value : Half) (s : State) :
    QueuesKept s (State.runSetSetting number value s).2 := by
  unfold State.runSetSetting
  split
  · exact .refl s
  · next n _ =>
    dsimp only
    split
    · split
      · exact .refl s
      · exact QueuesKept.trans (t := s.setService { s.service with settings := s.settings.put n value.toNat })
          (.of_links rfl) (queuesKept_applySetting _ n _ _)
    · exact .refl s

/-- READ_VIEW reads alone. -/
theorem runReadView_state (view : Byte) (s : State) : (State.runReadView view s).2 = s := by
  unfold State.runReadView
  split <;> rfl

theorem queuesKept_runFence (port : Byte) (s : State) : QueuesKept s (State.runFence port s).2 := by
  unfold State.runFence
  split
  · exact .refl s
  · next p _ =>
    split
    · exact .refl s
    · exact (queuesKept_fencePort s p _ _).trans (.of_links (judgeRepeat_frame _).1)

theorem queuesKept_runUnfence (port : Byte) (s : State) : QueuesKept s (State.runUnfence port s).2 := by
  unfold State.runUnfence
  split
  · exact .refl s
  · split
    · exact .of_links rfl
    · exact .refl s

theorem queuesKept_runServiceClearMark (port : Byte) (s : State) : QueuesKept s (State.runServiceClearMark port s).2 := by
  unfold State.runServiceClearMark
  split
  · exact .refl s
  · exact .of_links rfl

theorem queuesKept_runClearFaults (classes : Byte) (s : State) : QueuesKept s (State.runClearFaults classes s).2 := by
  unfold State.runClearFaults
  split
  · exact .refl s
  · exact .of_links (judgeAlert_frame _).1

theorem queuesKept_runReadSlot (slot : Nat) (w : SlotWear) (s : State) : QueuesKept s (State.runReadSlot slot w s).2 := by
  unfold State.runReadSlot
  split
  · exact .refl s
  split
  · exact .refl s
  · simp [QueuesKept]

theorem queuesKept_runFreeze (s : State) : QueuesKept s (State.runFreeze s).2 := by
  unfold State.runFreeze
  split
  · simp [QueuesKept]
  · exact .refl s
  · split
    · exact .refl s
    · exact .of_links rfl

theorem queuesKept_runThaw (s : State) : QueuesKept s (State.runThaw s).2 := by
  unfold State.runThaw
  split
  · simp [QueuesKept]
  · exact .refl s
  · split
    · exact .of_links rfl
    · exact .refl s

theorem queuesKept_runRetireBlock (block : Nat) (s : State) : QueuesKept s (State.runRetireBlock block s).2 := by
  unfold State.runRetireBlock
  split
  · exact .refl s
  split
  · exact .refl s
  split
  · exact .refl s
  split
  · exact .refl s
  · simp [QueuesKept]

/-! Links, timers, resets -/

/-- A link that goes DOWN keeps its request queue and its reply cache (R101). -/
theorem queuesKept_enterDown (s : State) (p : Port) : QueuesKept s (s.enterDown p) :=
  QueuesKept.trans (t := s.setLink p { s.link p with state := .down, trainingLimit := none, outbound := [], sending := none })
    (.setLink rfl (.refl _)) (.of_links (capture_frame _ _).1)

theorem queuesKept_lapse (s : State) (p : Port) : QueuesKept s (s.lapse p) := by
  unfold State.lapse
  split
  · exact queuesKept_fencePort s p _ _
  · simp [QueuesKept]

theorem queuesKept_resend (s : State) (p : Port) (k : NoticeKind) : QueuesKept s (s.resend p k) := by
  unfold State.resend
  split
  · simp [QueuesKept]
  · exact .refl s

theorem queuesKept_tick (s : State) : QueuesKept s s.tick := by
  intro q
  cases q <;> exact ⟨rfl, .refl _⟩

/-- No request waits and no reply is cached at any port. -/
def QueuesEmpty (s : State) : Prop := ∀ q, (s.links.get q).requests = [] ∧ (s.links.get q).cache = []

theorem QueuesKept.empty {s t : State} (h : QueuesKept s t) (hs : QueuesEmpty s) : QueuesEmpty t := by
  intro q
  obtain ⟨hr, hc⟩ := h q
  rw [(hs q).1] at hr
  rw [(hs q).2] at hc
  exact ⟨hr, List.sublist_nil.1 hc⟩

theorem queuesEmpty_poweredOn (pins : BitVec 2) (n : Nat) (l : List Instr) : QueuesEmpty (State.poweredOn pins n l) := by
  intro q
  cases q <;> exact ⟨rfl, rfl⟩

theorem queuesEmpty_resetCommon (s : State) (cause : ResetCause) (pins : BitVec 2) : QueuesEmpty (s.resetCommon cause pins) := by
  intro q
  cases q <;> exact ⟨rfl, rfl⟩

theorem queuesEmpty_warmReset (s : State) (cause : ResetCause) (pins : BitVec 2) : QueuesEmpty (s.warmReset cause pins) := by
  refine QueuesKept.empty ?_ (queuesEmpty_resetCommon s cause pins)
  unfold State.warmReset
  dsimp only
  split
  · exact .of_links rfl
  · exact .of_links rfl
  · simp [QueuesKept, State.startScrubTimer]

theorem queuesEmpty_clearingReset (s : State) (pins : BitVec 2) : QueuesEmpty (s.clearingReset pins) :=
  QueuesKept.empty (.of_links rfl) (queuesEmpty_resetCommon s .clearing pins)

/-! Commands that add nothing to a queue or a cache -/

theorem execSignalDetect_kept {p : Port} {s t : State} (h : execSignalDetect p s = .next t) : QueuesKept s t := by
  obtain rfl := Host.Outcome.next.inj h
  split
  · exact .setLink rfl (.refl _)
  · exact .refl s
  · exact .refl s

theorem execTrainingCompletes_kept {p : Port} {s t : State} (h : execTrainingCompletes p s = .next t) : QueuesKept s t := by
  obtain rfl := Host.Outcome.next.inj h
  split
  · exact .setLink rfl (.refl _)
  · exact .refl s
  · exact .refl s

theorem execTrainingLimitExpiry_kept {p : Port} {s t : State} (h : execTrainingLimitExpiry p s = .next t) :
    QueuesKept s t := by
  obtain rfl := Host.Outcome.next.inj h
  split
  · exact queuesKept_enterDown s p
  · exact .refl s
  · exact .refl s

theorem execLossOfLock_kept {p : Port} {s t : State} (h : execLossOfLock p s = .next t) : QueuesKept s t := by
  obtain rfl := Host.Outcome.next.inj h
  split
  · exact queuesKept_enterDown s p
  · exact queuesKept_enterDown s p
  · exact .refl s

theorem execFrameTransmit_kept {p : Port} {s t : State} (h : execFrameTransmit p s = .next t) : QueuesKept s t := by
  obtain rfl := Host.Outcome.next.inj h
  split
  · exact .setLink rfl (.refl _)
  · exact .refl s

theorem execLapseTimerExpiry_kept {p : Port} {s t : State} (h : execLapseTimerExpiry p s = .next t) : QueuesKept s t := by
  obtain rfl := Host.Outcome.next.inj h
  split
  · exact (queuesKept_lapse s p).trans (queuesKept_finish _)
  · exact .refl s

theorem execDrainTimerExpiry_kept {p : Port} {s t : State} (h : execDrainTimerExpiry p s = .next t) : QueuesKept s t := by
  obtain rfl := Host.Outcome.next.inj h
  split
  · simp [QueuesKept]
  · exact .refl s

theorem execRepeatTimerExpiry_kept {s t : State} (h : execRepeatTimerExpiry s = .next t) : QueuesKept s t := by
  obtain rfl := Host.Outcome.next.inj h
  split
  · have hStart : QueuesKept s (s.setNotices { s.notices with repeatTimer := some (s.settings.noticeRepeat * 10) }) :=
      .of_links rfl
    have hSend (p : Port) (u : State) : QueuesKept u (repeatOrder.foldl (fun v k => v.resend p k) u) :=
      .foldl (fun v k => queuesKept_resend v p k) _ u
    exact ((hStart.trans (hSend .a _)).trans (hSend .b _)).trans (queuesKept_finish _)
  · exact .refl s

theorem execLeakTimerExpiry_kept {s t : State} (h : execLeakTimerExpiry s = .next t) : QueuesKept s t := by
  obtain rfl := Host.Outcome.next.inj h
  split
  · split
    · exact .of_links rfl
    · exact .refl s
  · exact .refl s

theorem execScrubPaceExpiry_kept {s t : State} (h : execScrubPaceExpiry s = .next t) : QueuesKept s t := by
  obtain rfl := Host.Outcome.next.inj h
  split
  · exact .of_links rfl
  · exact .refl s

theorem execScrubRead_kept {w : SlotWear} {s t : State} (h : execScrubRead w s = .next t) : QueuesKept s t := by
  obtain rfl := Host.Outcome.next.inj h
  split
  · simp [QueuesKept]
  · exact .refl s

theorem queuesKept_advanceSweep (s : State) : QueuesKept s s.advanceSweep := .of_links rfl

theorem execSweepStep_kept {w : SlotWear} {s t : State} (h : execSweepStep w s = .next t) : QueuesKept s t := by
  obtain rfl := Host.Outcome.next.inj h
  split
  · refine (queuesKept_beginGrant s .sweeper).trans (.trans ?_ ((queuesKept_advanceSweep _).trans (queuesKept_finish _)))
    split
    · exact queuesKept_readSlot _ _ w
    · exact .refl _
  · exact .refl s

theorem execSweepAdvance_kept {s t : State} (h : execSweepAdvance s = .next t) : QueuesKept s t := by
  obtain rfl := Host.Outcome.next.inj h
  split
  · exact queuesKept_advanceSweep s
  · exact .refl s

theorem execRelocationMove_kept {w : SlotWear} {s t : State} (h : execRelocationMove w s = .next t) : QueuesKept s t := by
  obtain rfl := Host.Outcome.next.inj h
  split
  · refine (queuesKept_beginGrant s .relocator).trans ?_
    dsimp only
    split
    · exact (queuesKept_relocate _ _ w).trans (queuesKept_finish _)
    · exact queuesKept_finish _
  · exact .refl s

theorem execInitialiserWrite_kept {s t : State} (h : execInitialiserWrite s = .next t) : QueuesKept s t := by
  obtain rfl := Host.Outcome.next.inj h
  split
  · refine (queuesKept_beginGrant s .initialiser).trans ?_
    dsimp only
    generalize s.beginGrant .initialiser = u
    have hPool : QueuesKept u ((u.freeWrite u.engine.initPos).poolSlot u.engine.initPos) := by simp [QueuesKept]
    have hEnd (v : State) : QueuesKept v v.enterIfDue.finish := by simp [QueuesKept]
    exact (hPool.trans (queuesKept_advanceInit _)).trans (hEnd _)
  · exact .refl s

theorem execInitialiserAdvance_kept {s t : State} (h : execInitialiserAdvance s = .next t) : QueuesKept s t := by
  obtain rfl := Host.Outcome.next.inj h
  split
  · exact (queuesKept_advanceInit s).trans (queuesKept_finish _)
  · exact .refl s

theorem execUnknown_kept {bytes : List Byte} {s t : State} (h : execUnknown bytes s = .next t) : QueuesKept s t := by
  obtain rfl := Host.Outcome.next.inj h
  split
  · exact .refl s
  · next u hu =>
    split
    · split
      · exact (queuesKept_write hu).trans (queuesKept_complete _ _)
      · exact .refl s
    · exact queuesKept_write hu

theorem execServiceRequestAccepted_kept {x : GrantRequest} {s t : State} (h : execServiceRequestAccepted x s = .next t) :
    QueuesKept s t := by
  obtain rfl := Host.Outcome.next.inj h
  split
  · exact .refl s
  · next u hu => exact (queuesKept_write hu).trans (.of_links rfl)

theorem execReadSlot_kept {w : SlotWear} {s t : State} (h : execReadSlot w s = .next t) : QueuesKept s t := by
  obtain rfl := Host.Outcome.next.inj h
  split
  · next n _ => exact queuesKept_serviceGrant (queuesKept_runReadSlot n.toNat w) s
  · exact .refl s

theorem execFreeze_kept {s t : State} (h : execFreeze s = .next t) : QueuesKept s t := by
  obtain rfl := Host.Outcome.next.inj h
  split
  · exact queuesKept_serviceGrant queuesKept_runFreeze s
  · exact .refl s

theorem execThaw_kept {s t : State} (h : execThaw s = .next t) : QueuesKept s t := by
  obtain rfl := Host.Outcome.next.inj h
  split
  · exact queuesKept_serviceGrant queuesKept_runThaw s
  · exact .refl s

theorem execRetireBlock_kept {s t : State} (h : execRetireBlock s = .next t) : QueuesKept s t := by
  obtain rfl := Host.Outcome.next.inj h
  split
  · next b _ => exact queuesKept_serviceGrant (queuesKept_runRetireBlock b.toNat) s
  · exact .refl s

/-- A service request taken at once adds nothing if its own event does not. -/
theorem serviceEvent_kept {run : State → ServiceResult × State} (hrun : ∀ u, QueuesKept u (run u).2) {s t : State}
    {code : Byte} {params : List Byte}
    (h : (.next (s.serviceEvent code params run) : Host.Outcome State Fault Refusal) = .next t) : QueuesKept s t := by
  obtain rfl := Host.Outcome.next.inj h
  exact queuesKept_serviceEvent hrun s code params

/-! What one command does to the queues and caches -/

/-- What a command can do to the request queues and the reply caches: it adds nothing to them, empties them, admits a good frame
(R104), or serves the head of a queue by a rule that itself adds nothing (R107). -/
inductive QueueEvent (s : State) : State → Prop
  | keeps {t : State} (h : QueuesKept s t) : QueueEvent s t
  | empties {t : State} (h : QueuesEmpty t) : QueueEvent s t
  | admits (p : Port) (r : Request) : QueueEvent s (s.admitFrame p r)
  | serves {p : Port} {r : Request} {run : State → Answer × State} (hr : s.grantedRequest p = some r)
      (hrun : ∀ u, QueuesKept u (run u).2) : QueueEvent s (s.serve p r run)

theorem QueueEvent.refl (s : State) : QueueEvent s s := .keeps (.refl s)

/-- The checks of R134 before a request's own rule add nothing. -/
theorem QueueEvent.servesChecked {s : State} {p : Port} {r : Request} {run : State → Answer × State}
    (hr : s.grantedRequest p = some r) (hrun : ∀ u, QueuesKept u (run u).2) : QueueEvent s (s.serveChecked p r run) := by
  refine .serves hr fun u => ?_
  split
  · exact .refl u
  · exact hrun u

/-- A command that is the grant of a queue's head does nothing while no such grant is due (log 3). -/
theorem QueueEvent.ofGrant {s t : State} {p : Port} {f : Request → State}
    (hf : ∀ r, s.grantedRequest p = some r → QueueEvent s (f r))
    (h : (.next (match s.grantedRequest p with
      | none => s
      | some r => f r) : Host.Outcome State Fault Refusal) = .next t) : QueueEvent s t := by
  obtain rfl := Host.Outcome.next.inj h
  split
  · exact .refl s
  · next r hr => exact hf r hr

/-- A peer-request command serves the head of its port's queue, or does nothing. -/
theorem exec_request_queueEvent {p : Port} {i : Instr} {s t : State} (h : exec i s = .next t) (hi : isRequestOf p i) :
    QueueEvent s t := by
  cases i with
  | badRequest p =>
    refine .ofGrant (fun r hr => ?_) h
    split
    · exact .serves hr fun u => .refl u
    · exact .refl s
  | attach p =>
    refine .ofGrant (fun r hr => ?_) h
    split
    · exact .serves hr (queuesKept_runAttach p _)
    · exact .refl s
  | detachGraceful p =>
    refine .ofGrant (fun r hr => ?_) h
    split
    · exact .servesChecked hr (queuesKept_runDetachGraceful p)
    · exact .refl s
  | detachAbrupt p =>
    refine .ofGrant (fun r hr => ?_) h
    split
    · exact .servesChecked hr (queuesKept_runDetachAbrupt p)
    · exact .refl s
  | pulse p =>
    refine .ofGrant (fun r hr => ?_) h
    split
    · exact .servesChecked hr fun u => .refl u
    · exact .refl s
  | openIntent p w =>
    refine .ofGrant (fun r hr => ?_) h
    split
    · exact .servesChecked hr (queuesKept_runOpen p _ _ w)
    · exact .refl s
  | closeIntent p w =>
    refine .ofGrant (fun r hr => ?_) h
    split
    · exact .servesChecked hr (queuesKept_runClose p _ w)
    · exact .refl s
  | query p w =>
    refine .ofGrant (fun r hr => ?_) h
    split
    · exact .servesChecked hr (queuesKept_runQuery _ w)
    · exact .refl s
  | adopt p ws =>
    refine .ofGrant (fun r hr => ?_) h
    split
    · exact .servesChecked hr (queuesKept_runAdopt p ws)
    · exact .refl s
  | resolve p w =>
    refine .ofGrant (fun r hr => ?_) h
    split
    · exact .servesChecked hr (queuesKept_runResolve p _ w)
    · exact .refl s
  | clearMark p =>
    refine .ofGrant (fun r hr => ?_) h
    split
    · exact .servesChecked hr fun u => .of_links rfl
    · exact .refl s
  | fencePeer p =>
    refine .ofGrant (fun r hr => ?_) h
    split
    · exact .servesChecked hr (queuesKept_runFencePeer p)
    · exact .refl s
  | ackNotice p =>
    refine .ofGrant (fun r hr => ?_) h
    split
    · exact .servesChecked hr (queuesKept_runAckNotice p _)
    · exact .refl s
  | status p =>
    refine .ofGrant (fun r hr => ?_) h
    split
    · exact .servesChecked hr fun u => .refl u
    · exact .refl s
  | _ => exact hi.elim

/-- A frame is received only in UP, and only a good one is admitted (R103, R104). -/
theorem execRequestFrame_queueEvent {p : Port} {ws : List Word} {s t : State} (h : execRequestFrame p ws s = .next t) :
    QueueEvent s t := by
  obtain rfl := Host.Outcome.next.inj h
  split
  · split
    · exact .keeps (.of_links (capture_frame s _).1)
    · exact .keeps (.of_links (capture_frame s _).1)
    · exact .admits p _
  · exact .refl s
  · exact .refl s

theorem execWarmResetKeep_queueEvent {pins : BitVec 2} {s t : State} (h : execWarmResetKeep pins s = .next t) :
    QueueEvent s t := by
  obtain rfl := Host.Outcome.next.inj h
  split
  · exact .refl s
  · exact .empties (queuesEmpty_warmReset _ _ pins)

theorem execWarmResetClear_queueEvent {pins : BitVec 2} {s t : State} (h : execWarmResetClear pins s = .next t) :
    QueueEvent s t := by
  obtain rfl := Host.Outcome.next.inj h
  split
  · exact .refl s
  · exact .empties (queuesEmpty_clearingReset _ pins)

theorem exec_queueEvent {i : Instr} {s t : State} (h : exec i s = .next t) : QueueEvent s t := by
  cases i with
  | badRequest p | attach p | detachGraceful p | detachAbrupt p | pulse p | openIntent p _ | closeIntent p _ | query p _
  | adopt p _ | resolve p _ | clearMark p | fencePeer p | ackNotice p | status p =>
    exact exec_request_queueEvent (p := p) h rfl
  | requestFrame p ws => exact execRequestFrame_queueEvent h
  | powerOnReset pins => exact .empties (Host.Outcome.next.inj h ▸ queuesEmpty_poweredOn pins _ _)
  | warmPin pins => exact .empties (Host.Outcome.next.inj h ▸ queuesEmpty_warmReset s _ pins)
  | warmResetKeep pins => exact execWarmResetKeep_queueEvent h
  | warmResetClear pins => exact execWarmResetClear_queueEvent h
  | signalDetect p => exact .keeps (execSignalDetect_kept h)
  | trainingCompletes p => exact .keeps (execTrainingCompletes_kept h)
  | trainingLimitExpiry p => exact .keeps (execTrainingLimitExpiry_kept h)
  | lossOfLock p => exact .keeps (execLossOfLock_kept h)
  | frameTransmit p => exact .keeps (execFrameTransmit_kept h)
  | lapseTimerExpiry p => exact .keeps (execLapseTimerExpiry_kept h)
  | drainTimerExpiry p => exact .keeps (execDrainTimerExpiry_kept h)
  | repeatTimerExpiry => exact .keeps (execRepeatTimerExpiry_kept h)
  | leakTimerExpiry => exact .keeps (execLeakTimerExpiry_kept h)
  | scrubPaceExpiry => exact .keeps (execScrubPaceExpiry_kept h)
  | scrubRead w => exact .keeps (execScrubRead_kept h)
  | sweepStep w => exact .keeps (execSweepStep_kept h)
  | sweepAdvance => exact .keeps (execSweepAdvance_kept h)
  | relocationMove w => exact .keeps (execRelocationMove_kept h)
  | initialiserWrite => exact .keeps (execInitialiserWrite_kept h)
  | initialiserAdvance => exact .keeps (execInitialiserAdvance_kept h)
  | getSetting n => exact .keeps (serviceEvent_kept (queuesKept_runGetSetting n) h)
  | setSetting n v => exact .keeps (serviceEvent_kept (queuesKept_runSetSetting n v) h)
  | readView v => exact .keeps (serviceEvent_kept (fun u => .of_links (congrArg State.links (runReadView_state v u))) h)
  | identify => exact .keeps (serviceEvent_kept (fun u => .refl u) h)
  | fence b => exact .keeps (serviceEvent_kept (queuesKept_runFence b) h)
  | unfence b => exact .keeps (serviceEvent_kept (queuesKept_runUnfence b) h)
  | serviceClearMark b => exact .keeps (serviceEvent_kept (queuesKept_runServiceClearMark b) h)
  | clearFaults c => exact .keeps (serviceEvent_kept (queuesKept_runClearFaults c) h)
  | readSlot w => exact .keeps (execReadSlot_kept h)
  | freeze => exact .keeps (execFreeze_kept h)
  | thaw => exact .keeps (execThaw_kept h)
  | retireBlock => exact .keeps (execRetireBlock_kept h)
  | unknown bytes => exact .keeps (execUnknown_kept h)
  | serviceRequestAccepted x => exact .keeps (execServiceRequestAccepted_kept h)

/-! The law is kept -/

theorem LinkLaw.of_queuesKept {s t : State} (h : LinkLaw s) (hk : QueuesKept s t) : LinkLaw t :=
  (linkLaw_iff t).2 fun q => ((linkLaw_iff s).1 h q).mono ((hk q).1 ▸ .refl _) (hk q).2

theorem LinkLaw.of_queuesEmpty {t : State} (h : QueuesEmpty t) : LinkLaw t :=
  (linkLaw_iff t).2 fun q => Link.queuesOk_default.mono ((h q).1 ▸ .refl _) ((h q).2 ▸ .refl _)

theorem LinkLaw.setLink {s : State} (h : LinkLaw s) (p : Port) {l : Link} (hl : l.QueuesOk) : LinkLaw (s.setLink p l) := by
  refine (linkLaw_iff _).2 fun q => ?_
  rw [setLink_links, PerPort.get_set]
  split
  · exact hl
  · exact (linkLaw_iff s).1 h q

theorem restartLapse_links (s : State) (p : Port) (r : Request) : (s.restartLapse p r).links = s.links := by
  unfold State.restartLapse
  split <;> rfl

/-- R104, R110, R113: a frame joins the queue only if its number is neither cached nor queued and fewer than 8 requests wait. -/
theorem LinkLaw.admitFrame {s : State} (h : LinkLaw s) (p : Port) (r : Request) : LinkLaw (s.admitFrame p r) := by
  have ht : LinkLaw (s.restartLapse p r) := h.of_queuesKept (.of_links (restartLapse_links s p r))
  unfold State.admitFrame
  generalize s.restartLapse p r = t at ht ⊢
  dsimp only
  split
  · exact ht.of_queuesKept (by simp [QueuesKept])
  · next hCache =>
    split
    · exact ht
    · next hQueue =>
      split
      · exact ht.of_queuesKept (.of_links (capture_frame t _).1)
      · next hLen =>
        refine ht.setLink p (((linkLaw_iff t).1 ht p).push (Nat.not_le.1 hLen) ?_ ?_)
        · simpa [Link.queued] using hQueue
        · simpa [Link.cached] using hCache

theorem deliverReply_ports (s : State) (p : Port) (r : Request) (a : Answer) :
    ((s.deliverReply p r a).links.get p).requests = (s.links.get p).requests.tail ∧
    ((s.deliverReply p r a).links.get p).cache = (if a.status.cached then
      cachePush (s.links.get p).cache { kind := replyKind r.kind, seq := r.seq, status := a.status, payload := a.payload }
      else (s.links.get p).cache) ∧
    ((s.deliverReply p r a).links.get p.other).requests = (s.links.get p.other).requests ∧
    ((s.deliverReply p r a).links.get p.other).cache = (s.links.get p.other).cache := by
  simp [State.deliverReply]

/-- R107: the head's cached reply takes the place of the head. -/
theorem LinkLaw.deliverReply {s : State} (h : LinkLaw s) {p : Port} {r : Request}
    (hr : (s.links.get p).requests.head? = some r) (a : Answer) : LinkLaw (s.deliverReply p r a) := by
  obtain ⟨rest, hHead⟩ := List.head?_eq_some_iff.1 hr
  obtain ⟨hReq, hCache, hReqOther, hCacheOther⟩ := deliverReply_ports s p r a
  rw [hHead, List.tail_cons] at hReq
  refine (linkLaw_iff _).2 fun q => ?_
  rcases Port.eq_or_other p q with rfl | rfl
  · split at hCache
    · exact ((linkLaw_iff s).1 h q).answerHead hHead rfl hReq hCache
    · exact ((linkLaw_iff s).1 h q).mono (by rw [hReq, hHead]; exact List.sublist_cons_self r rest) (hCache ▸ .refl _)
  · exact ((linkLaw_iff s).1 h p.other).mono (hReqOther ▸ .refl _) (hCacheOther ▸ .refl _)

/-- The request that a grant executes is the head of its port's queue (R107). -/
theorem head_of_grantedRequest {s : State} {p : Port} {r : Request} (h : s.grantedRequest p = some r) :
    (s.links.get p).requests.head? = some r := by
  unfold State.grantedRequest at h
  split at h
  · exact h
  · cases h

theorem LinkLaw.serve {s : State} (h : LinkLaw s) {p : Port} {r : Request} {run : State → Answer × State}
    (hr : s.grantedRequest p = some r) (hrun : ∀ u, QueuesKept u (run u).2) : LinkLaw (s.serve p r run) := by
  have hk : QueuesKept s (run (s.grantStart p)).2 := QueuesKept.trans (.of_links (grantStart_quiet s p).1) (hrun _)
  have hHead := head_of_grantedRequest hr
  rw [← (hk p).1] at hHead
  rw [serve_eq]
  exact ((h.of_queuesKept hk).deliverReply hHead _).of_queuesKept (queuesKept_finish _)

theorem LinkLaw.of_queueEvent {s t : State} (h : LinkLaw s) (e : QueueEvent s t) : LinkLaw t := by
  cases e with
  | keeps hk => exact h.of_queuesKept hk
  | empties he => exact .of_queuesEmpty he
  | admits p r => exact h.admitFrame p r
  | serves hr hrun => exact h.serve hr hrun

/-- Settles O6, by the four things that a command can do to a queue or a cache; a millisecond does none of them. -/
theorem everyStepKeepsLinkLaw : Obligations.EveryStepKeepsLinkLaw := by
  unfold Obligations.EveryStepKeepsLinkLaw
  intro s t h hstep
  unfold step at hstep
  split at hstep
  · obtain rfl := Host.Outcome.next.inj hstep
    exact h.of_queuesKept (queuesKept_tick s)
  · next c rest _ =>
    have hTaken : LinkLaw { s with pending := rest } := h
    exact hTaken.of_queueEvent (exec_queueEvent hstep)

end Sys2Proof.Machine
end

section
/-! PROOFS. Fault capture and the alert line (R190, R192, R193): what a captured fault and a CLEAR_FAULTS do to the class records.
Both replace records and then judge ALERT_N, so each is a new `Faults` put in place by one lemma, `judgeAlert` after `setFaults`. -/

namespace Sys2Proof.Machine

/-! The class records and the alert line -/

theorem Faults.get_put (f : Faults) (c c' : FaultClass) (r : ClassRecord) :
    (f.put c r).get c' = if c' = c then r else f.get c' := by
  cases c <;> cases c' <;> rfl

/-- Judging ALERT_N writes no class record. -/
@[simp] theorem judgeAlert_get (s : State) (c : FaultClass) : s.judgeAlert.faults.get c = s.faults.get c := by
  cases c <;> rfl

/-- ALERT_N agrees with the records it stands beside: the condition reads the records alone, not the line (R193). -/
theorem judgeAlert_alert (s : State) :
    s.judgeAlert.faults.alert = alertCondition s.judgeAlert.faults s.settings.alertEnable := rfl

/-- New records and the line judged on them are a change of the fault capture unit alone. -/
theorem setFaults_judgeAlert_eq (s : State) (x : Faults) :
    (s.setFaults x).judgeAlert = { s with faults := (s.setFaults x).judgeAlert.faults } := rfl

/-! A fault is captured (R190) -/

theorem capture_eq_of_absent {s : State} {f : FaultRecord} (h : (s.faults.get f.kind.faultClass).first = none) :
    s.capture f = (s.setFaults (s.faults.put f.kind.faultClass
      { s.faults.get f.kind.faultClass with first := some { f with uptime := s.resetCtl.uptime } })).judgeAlert := by
  simp only [State.capture, h]

theorem capture_eq_of_held {s : State} {f : FaultRecord} (h : (s.faults.get f.kind.faultClass).first.isSome = true) :
    s.capture f = (s.setFaults (s.faults.put f.kind.faultClass
      { s.faults.get f.kind.faultClass with later := (s.faults.get f.kind.faultClass).later ||| f.kind.bit })).judgeAlert := by
  obtain ⟨first, hFirst⟩ := Option.isSome_iff_exists.1 h
  simp only [State.capture, hFirst]

/-- Whichever the case, a capture replaces the record of the fault's class and judges the line. -/
theorem capture_eq_put (s : State) (f : FaultRecord) :
    ∃ r, s.capture f = (s.setFaults (s.faults.put f.kind.faultClass r)).judgeAlert := ⟨_, rfl⟩

/-- Settles O28, by the two cases of the first record; the other records, the line and the rest of the state do not depend on
which of them it is. -/
theorem faultsFillOrJoin : Obligations.FaultsFillOrJoin := by
  unfold Obligations.FaultsFillOrJoin
  intro s f t c
  obtain ⟨r, hPut⟩ : ∃ r, t = (s.setFaults (s.faults.put c r)).judgeAlert := capture_eq_put s f
  refine ⟨fun hAbsent => ?fills, fun hHeld => ?joins, fun c' hc => ?others, ?alert, ?rest⟩
  case fills => simp [t, c, capture_eq_of_absent hAbsent, Faults.get_put]
  case joins => simp [t, c, capture_eq_of_held hHeld, Faults.get_put]
  case others => rw [hPut, judgeAlert_get, setFaults_faults, Faults.get_put, if_neg hc]
  case alert => rw [hPut]; exact judgeAlert_alert _
  case rest => rw [hPut]; exact setFaults_judgeAlert_eq s _

/-! CLEAR_FAULTS (R192) -/

/-- The unit with the records of the named classes emptied. -/
def Faults.cleared (f : Faults) (classes : Byte) : Faults :=
  { f with
    link := clearedIf classes .link f.link
    storeCorrected := clearedIf classes .storeCorrected f.storeCorrected
    storeLost := clearedIf classes .storeLost f.storeLost
    session := clearedIf classes .session f.session
    capacity := clearedIf classes .capacity f.capacity }

theorem Faults.cleared_get (f : Faults) (classes : Byte) (c : FaultClass) :
    (f.cleared classes).get c = clearedIf classes c (f.get c) := by
  cases c <;> rfl

theorem runClearFaults_of_lt {classes : Byte} (h : classes.toNat < 32) (s : State) :
    State.runClearFaults classes s = ({ status := .ok }, (s.setFaults (s.faults.cleared classes)).judgeAlert) :=
  if_neg (Nat.not_le.2 h)

theorem runClearFaults_of_le {classes : Byte} (h : 32 ≤ classes.toNat) (s : State) :
    State.runClearFaults classes s = ({ status := .range }, s) :=
  if_pos h

/-- A CLEAR_FAULTS to a port that is not BUSY: the write is accepted, and the clearing, which reads nothing that the write changes,
leaves its result. -/
theorem exec_clearFaults {s : State} (classes : Byte) (h : s.service.target ≠ .busy) :
    exec (.clearFaults classes) s =
      .next ((State.runClearFaults classes s).2.withResult (State.runClearFaults classes s).1) := by
  have hExec : exec (.clearFaults classes) s = .next (s.serviceEvent 0x30 [classes] (State.runClearFaults classes)) := rfl
  rw [hExec, serviceEvent_of_accepted h (by simp) rfl]
  rcases Nat.lt_or_ge classes.toNat 32 with hSet | hSet
  · rw [runClearFaults_of_lt hSet, runClearFaults_of_lt hSet]
    rfl
  · rw [runClearFaults_of_le hSet, runClearFaults_of_le hSet]
    rfl

/-- Settles O56, by whether the set names a class beyond the five. -/
theorem clearFaultsEmptiesNamedClasses : Obligations.ClearFaultsEmptiesNamedClasses := by
  unfold Obligations.ClearFaultsEmptiesNamedClasses
  intro classes s hIdle
  rw [exec_clearFaults classes hIdle]
  constructor
  · intro hSet
    rw [runClearFaults_of_lt hSet]
    refine ⟨_, rfl, fun c => ?_, judgeAlert_alert _, setFaults_judgeAlert_eq s _⟩
    rw [judgeAlert_get, setFaults_faults, Faults.cleared_get]
    rfl
  · intro hSet
    rw [runClearFaults_of_le hSet]

end Sys2Proof.Machine
end

section
/-! PROOFS. The machine as a whole: the step, the reset state, and the resets of the part. -/

-- The proofs are checked one after the other: run at once, their threads would exceed the memory bound of the check.
set_option Elab.async false

namespace Sys2Proof.Machine

/-! The step -/

/-- Settles O1, by the definition of the step. -/
theorem stepRunsTheFrontCommand : Obligations.StepRunsTheFrontCommand := fun _ _ _ => rfl

/-- Settles O2, by the definition of the tick, port by port. -/
theorem emptyQueueIsOneMillisecond : Obligations.EmptyQueueIsOneMillisecond := by
  unfold Obligations.EmptyQueueIsOneMillisecond
  intro s hEmpty
  have hStep : step s = .next s.tick := by simp only [step, hEmpty]
  have hLeak : s.tick.integrity = { s.integrity with leakTimer :=
      if s.engine.state = .initializing then s.integrity.leakTimer else s.integrity.leakTimer.map (· - 1) } := by
    by_cases hInit : s.engine.state = .initializing <;> simp [State.tick, State.running, hInit]
  refine ⟨s.tick, hStep, rfl, fun p => ?_, rfl, rfl, hLeak, rfl, rfl, rfl, rfl, rfl, rfl, hEmpty⟩
  cases p <;> exact ⟨rfl, rfl⟩

/-- Settles O3, by the outcome of each row's event. -/
theorem everyCommandHasANextState : Obligations.EveryCommandHasANextState := by
  unfold Obligations.EveryCommandHasANextState
  intro c s
  cases c <;> exact ⟨_, rfl⟩

/-! The state after reset -/

/-- Settles O4, by evaluation of the reset state; a block beyond the sixteen reads as the record of a block in service. -/
theorem resetStateIsAsTheChaptersGive : Obligations.ResetStateIsAsTheChaptersGive := by
  unfold Obligations.ResetStateIsAsTheChaptersGive
  have hBlock : ∀ b, State.reset.block b = { state := .inService, bucket := 0 } := by
    intro b
    rcases Nat.lt_or_ge b 16 with hb | hb
    · have h16 : ∀ b < 16, State.reset.block b = { state := .inService, bucket := 0 } := by decide
      exact h16 b hb
    · exact block_beyond _ hb
  refine ⟨fun p => by cases p <;> rfl, fun p => by cases p <;> exact ⟨rfl, rfl, rfl, rfl, rfl⟩, rfl, rfl, rfl, rfl, fun n => rfl,
    rfl, rfl, rfl, rfl, rfl, rfl, rfl, hBlock, rfl, rfl, rfl, rfl, fun p k => by cases p <;> cases k <;> rfl,
    fun p => by cases p <;> rfl, rfl, rfl, rfl, rfl, rfl, rfl, fun c => by cases c <;> rfl, rfl, rfl, rfl⟩

/-- Settles O18, by the checks of the laws on the reset state; its counts and its index are empty. -/
theorem lawsHoldAtReset : Obligations.LawsHoldAtReset := by
  unfold Obligations.LawsHoldAtReset
  refine ⟨lawful_of_checks (by decide) (by decide), fun p => ?_⟩
  cases p <;> decide

/-- Settles O19, by the definition of the state after a power-on reset. -/
theorem powerOnResetStartsAfresh : Obligations.PowerOnResetStartsAfresh := fun _ _ => rfl

end Sys2Proof.Machine
end

section
/-! PROOFS. The journal as a table of live entries: what slot numbers name which key and fields. The laws of keys, stamps and the
orphan list (R13, R18, R79) are laws of that table alone, and every event of the journal removes an entry of it, adds one, or moves
one to another slot. -/

-- The proofs are checked one after the other: run at once, their threads would exceed the memory bound of the check.
set_option Elab.async false

namespace Sys2Proof.Machine

/-! Insertion into the orphan list -/

theorem insertOrphan_perm (o : Orphan) (l : List Orphan) : (insertOrphan o l).Perm (o :: l) := by
  induction l with
  | nil => exact .refl _
  | cons x rest ih =>
    unfold insertOrphan
    split
    · exact .refl _
    · exact (ih.cons x).trans (.swap o x rest)

theorem mem_insertOrphan {o x : Orphan} {l : List Orphan} : x ∈ insertOrphan o l ↔ x = o ∨ x ∈ l := by
  rw [(insertOrphan_perm o l).mem_iff, List.mem_cons]

/-- R79, R80: the list stays ordered by stamp. -/
theorem insertOrphan_sorted (o : Orphan) {l : List Orphan} (h : l.Pairwise fun a b => a.stamp.toNat ≤ b.stamp.toNat) :
    (insertOrphan o l).Pairwise fun a b => a.stamp.toNat ≤ b.stamp.toNat := by
  induction l with
  | nil => exact List.pairwise_singleton ..
  | cons x rest ih =>
    obtain ⟨hx, hRest⟩ := List.pairwise_cons.1 h
    unfold insertOrphan
    split
    · next hlt =>
      refine List.pairwise_cons.2 ⟨fun y hy => ?_, h⟩
      rcases List.mem_cons.1 hy with rfl | hy
      · exact Nat.le_of_lt hlt
      · exact Nat.le_trans (Nat.le_of_lt hlt) (hx y hy)
    · next hle =>
      refine List.pairwise_cons.2 ⟨fun y hy => ?_, ih hRest⟩
      rcases mem_insertOrphan.1 hy with rfl | hy
      · exact Nat.not_lt.1 hle
      · exact hx y hy

/-! The table of live entries -/

/-- The fields that its state requires of an entry, and its stamp below the counter (R6, R7, R11, R18). -/
structure EntryOk (e : EntryBody) (counter : Stamp) : Prop where
  opened : e.state = .opened → (e.holdA.isSome = true ∨ e.holdB.isSome = true) ∧ e.adopter = none
  orphan : e.state = .orphan → e.holdA = none ∧ e.holdB = none ∧ e.adopter = none
  adopted : e.state = .adopted → e.holdA = none ∧ e.holdB = none ∧ e.adopter.isSome = true
  holds : ∀ p h, e.hold p = some h → 1 ≤ h.count ∧ h.count ≤ 15 ∧ h.epoch ≠ 0#16
  adopter : ∀ a, e.adopter = some a → a.epoch ≠ 0#16
  note : e.note.length ≤ 2
  stampless : e.stamp = 0#64 → e.damaged = true
  stamped : e.stamp ≠ 0#64 → e.stamp.toNat < counter.toNat

/-- The laws of a table of live entries, its orphan list and its stamp counter. -/
structure TableLaw (live : Nat → RegionKey → EntryBody → Prop) (orphans : List Orphan) (counter : Stamp) : Prop where
  single : ∀ {n k l e f}, live n k e → live n l f → k = l ∧ e = f
  keys : ∀ {n m k e f}, live n k e → live m k f → n = m
  fields : ∀ {n k e}, live n k e → EntryOk e counter
  stamps : ∀ {n m k l e f}, live n k e → live m l f → e.stamp = f.stamp → e.stamp ≠ 0#64 → n = m
  sorted : orphans.Pairwise fun a b => a.stamp.toNat ≤ b.stamp.toNat
  distinct : (orphans.map Orphan.key).Nodup
  listed : ∀ o : Orphan, o ∈ orphans ↔ ∃ n e, live n o.key e ∧ e.state = .orphan ∧ e.stamp = o.stamp

namespace TableLaw

variable {live live' : Nat → RegionKey → EntryBody → Prop} {orphans : List Orphan} {counter : Stamp}

/-- The same entries under the same list. -/
theorem congr (h : TableLaw live orphans counter) (hl : ∀ n k e, live' n k e ↔ live n k e) : TableLaw live' orphans counter := by
  have : live' = live := by
    funext n k e
    exact propext (hl n k e)
  rw [this]
  exact h

/-- A key whose entry is not ORPHAN stands in no place of the list. -/
theorem filter_key (h : TableLaw live orphans counter) {n : Nat} {k : RegionKey} {e : EntryBody} (hn : live n k e)
    (he : e.state ≠ .orphan) : orphans.filter (fun o => o.key ≠ k) = orphans := by
  refine List.filter_eq_self.2 fun o ho => ?_
  obtain ⟨m, f, hm, hs, _⟩ := (h.listed o).1 ho
  refine decide_eq_true fun hk => he ?_
  rw [hk] at hm
  obtain rfl := h.keys hm hn
  rw [← (h.single hm hn).2]
  exact hs

/-- The entry of slot `n` with key `k` leaves the table and the list. -/
theorem remove (h : TableLaw live orphans counter) {n : Nat} {k : RegionKey} {e : EntryBody} (hn : live n k e)
    (hl : ∀ m l f, live' m l f ↔ m ≠ n ∧ live m l f) :
    TableLaw live' (orphans.filter fun o => o.key ≠ k) counter where
  single h1 h2 := h.single ((hl ..).1 h1).2 ((hl ..).1 h2).2
  keys h1 h2 := h.keys ((hl ..).1 h1).2 ((hl ..).1 h2).2
  fields h1 := h.fields ((hl ..).1 h1).2
  stamps h1 h2 := h.stamps ((hl ..).1 h1).2 ((hl ..).1 h2).2
  sorted := h.sorted.filter _
  distinct := h.distinct.sublist (List.filter_sublist.map _)
  listed o := by
    simp only [List.mem_filter, decide_eq_true_eq]
    constructor
    · rintro ⟨ho, hne⟩
      obtain ⟨m, f, hm, hf⟩ := (h.listed o).1 ho
      exact ⟨m, f, (hl ..).2 ⟨fun e => hne (h.single (e ▸ hm) hn).1, hm⟩, hf⟩
    · rintro ⟨m, f, hm, hf⟩
      obtain ⟨hne, hm⟩ := (hl ..).1 hm
      refine ⟨(h.listed o).2 ⟨m, f, hm, hf⟩, fun e => hne ?_⟩
      rw [e] at hm
      exact h.keys hm hn

/-- An entry of a fresh key joins the table, and the list if it is ORPHAN. -/
theorem add (h : TableLaw live orphans counter) {n : Nat} {k : RegionKey} {e : EntryBody} (hOk : EntryOk e counter)
    (hEmpty : ∀ l f, ¬live n l f) (hFresh : ∀ m f, ¬live m k f) (hStamp : ∀ m l f, live m l f → e.stamp = f.stamp → e.stamp = 0#64)
    (hl : ∀ m l f, live' m l f ↔ (m = n ∧ l = k ∧ f = e) ∨ live m l f) :
    TableLaw live' (if e.state = .orphan then insertOrphan ⟨k, e.stamp⟩ orphans else orphans) counter where
  single h1 h2 := by
    rcases (hl ..).1 h1 with ⟨rfl, rfl, rfl⟩ | h1
    · rcases (hl ..).1 h2 with ⟨-, rfl, rfl⟩ | h2
      · exact ⟨rfl, rfl⟩
      · exact absurd h2 (hEmpty _ _)
    · rcases (hl ..).1 h2 with ⟨rfl, rfl, rfl⟩ | h2
      · exact absurd h1 (hEmpty _ _)
      · exact h.single h1 h2
  keys h1 h2 := by
    rcases (hl ..).1 h1 with ⟨rfl, rfl, rfl⟩ | h1
    · rcases (hl ..).1 h2 with ⟨rfl, -, -⟩ | h2
      · rfl
      · exact absurd h2 (hFresh _ _)
    · rcases (hl ..).1 h2 with ⟨rfl, rfl, rfl⟩ | h2
      · exact absurd h1 (hFresh _ _)
      · exact h.keys h1 h2
  fields h1 := by
    rcases (hl ..).1 h1 with ⟨rfl, rfl, rfl⟩ | h1
    · exact hOk
    · exact h.fields h1
  stamps h1 h2 hs h0 := by
    rcases (hl ..).1 h1 with ⟨rfl, rfl, rfl⟩ | h1
    · rcases (hl ..).1 h2 with ⟨rfl, -, -⟩ | h2
      · rfl
      · exact absurd (hStamp _ _ _ h2 hs) h0
    · rcases (hl ..).1 h2 with ⟨rfl, rfl, rfl⟩ | h2
      · exact absurd (hs.trans (hStamp _ _ _ h1 hs.symm)) h0
      · exact h.stamps h1 h2 hs h0
  sorted := by
    split
    · exact insertOrphan_sorted _ h.sorted
    · exact h.sorted
  distinct := by
    split
    · refine (((insertOrphan_perm _ _).map _).nodup_iff).2 (List.nodup_cons.2 ⟨fun hk => ?_, h.distinct⟩)
      obtain ⟨o, ho, hok⟩ := List.mem_map.1 hk
      obtain ⟨m, f, hm, -⟩ := (h.listed o).1 ho
      rw [hok] at hm
      exact hFresh m f hm
    · exact h.distinct
  listed o := by
    have old : (∃ m f, live m o.key f ∧ f.state = .orphan ∧ f.stamp = o.stamp) ↔ o ∈ orphans := (h.listed o).symm
    have new : (∃ m f, live' m o.key f ∧ f.state = .orphan ∧ f.stamp = o.stamp) ↔
        (o.key = k ∧ e.state = .orphan ∧ e.stamp = o.stamp) ∨ o ∈ orphans := by
      rw [← old]
      constructor
      · rintro ⟨m, f, hm, hf⟩
        rcases (hl ..).1 hm with ⟨rfl, hk, rfl⟩ | hm
        · exact .inl ⟨hk, hf⟩
        · exact .inr ⟨m, f, hm, hf⟩
      · rintro (⟨hk, hf⟩ | ⟨m, f, hm, hf⟩)
        · exact ⟨n, e, (hl ..).2 (.inl ⟨rfl, hk, rfl⟩), hf⟩
        · exact ⟨m, f, (hl ..).2 (.inr hm), hf⟩
    rw [new]
    split
    · next hs =>
      rw [mem_insertOrphan]
      refine or_congr_left ⟨fun ho => ?_, fun ⟨hk, _, hst⟩ => ?_⟩
      · rw [ho]
        exact ⟨rfl, hs, rfl⟩
      · cases o
        simp_all
    · next hs => simp [hs]

/-- An entry takes another slot. -/
theorem move (h : TableLaw live orphans counter) {n m : Nat} {k : RegionKey} {e : EntryBody} (hn : live n k e)
    (hEmpty : ∀ l f, ¬live m l f)
    (hl : ∀ i l f, live' i l f ↔ (i = m ∧ l = k ∧ f = e) ∨ (i ≠ n ∧ live i l f)) : TableLaw live' orphans counter where
  single h1 h2 := by
    rcases (hl ..).1 h1 with ⟨rfl, rfl, rfl⟩ | ⟨_, h1⟩
    · rcases (hl ..).1 h2 with ⟨-, rfl, rfl⟩ | ⟨_, h2⟩
      · exact ⟨rfl, rfl⟩
      · exact absurd h2 (hEmpty _ _)
    · rcases (hl ..).1 h2 with ⟨rfl, rfl, rfl⟩ | ⟨_, h2⟩
      · exact absurd h1 (hEmpty _ _)
      · exact h.single h1 h2
  keys h1 h2 := by
    rcases (hl ..).1 h1 with ⟨rfl, rfl, rfl⟩ | ⟨hne, h1⟩
    · rcases (hl ..).1 h2 with ⟨rfl, -, -⟩ | ⟨hne, h2⟩
      · rfl
      · exact absurd (h.keys h2 hn) hne
    · rcases (hl ..).1 h2 with ⟨rfl, rfl, rfl⟩ | ⟨_, h2⟩
      · exact absurd (h.keys h1 hn) hne
      · exact h.keys h1 h2
  fields h1 := by
    rcases (hl ..).1 h1 with ⟨rfl, rfl, rfl⟩ | ⟨_, h1⟩
    · exact h.fields hn
    · exact h.fields h1
  stamps h1 h2 hs h0 := by
    rcases (hl ..).1 h1 with ⟨rfl, rfl, rfl⟩ | ⟨hne, h1⟩
    · rcases (hl ..).1 h2 with ⟨rfl, -, -⟩ | ⟨hne, h2⟩
      · rfl
      · exact absurd (h.stamps hn h2 hs h0).symm hne
    · rcases (hl ..).1 h2 with ⟨rfl, rfl, rfl⟩ | ⟨_, h2⟩
      · exact absurd (h.stamps h1 hn hs h0) hne
      · exact h.stamps h1 h2 hs h0
  sorted := h.sorted
  distinct := h.distinct
  listed o := by
    rw [h.listed o]
    constructor
    · rintro ⟨i, f, hi, hf⟩
      by_cases hin : i = n
      · obtain ⟨hk, rfl⟩ := h.single (hin ▸ hi) hn
        exact ⟨m, f, (hl ..).2 (.inl ⟨rfl, hk, rfl⟩), hf⟩
      · exact ⟨i, f, (hl ..).2 (.inr ⟨hin, hi⟩), hf⟩
    · rintro ⟨i, f, hi, hf⟩
      rcases (hl ..).1 hi with ⟨rfl, hk, rfl⟩ | ⟨_, hi⟩
      · exact ⟨n, f, hk ▸ hn, hf⟩
      · exact ⟨i, f, hi, hf⟩

end TableLaw
end Sys2Proof.Machine
end

section
/-! PROOFS. Slot-keyed tables as collections: an insertion is a new pair beside the others, an erasure is one pair fewer, and so are
the counts over them. -/

-- The proofs are checked one after the other: run at once, their threads would exceed the memory bound of the check.
set_option Elab.async false

namespace Sys2Proof.SlotMap

variable {α : Type}

/-- Elements of a list whose images are distinct are told apart by their images. -/
theorem eq_of_nodup_map {β : Type} {f : α → β} {l : List α} (h : (l.map f).Nodup) {x y : α} (hx : x ∈ l) (hy : y ∈ l)
    (hf : f x = f y) : x = y := by
  induction l with
  | nil => cases hx
  | cons z rest ih =>
    rw [List.map_cons, List.nodup_cons] at h
    obtain ⟨hNew, hRest⟩ := h
    rcases List.mem_cons.1 hx with rfl | hx'
    · rcases List.mem_cons.1 hy with rfl | hy'
      · rfl
      · exact absurd (hf ▸ List.mem_map_of_mem hy') hNew
    · rcases List.mem_cons.1 hy with rfl | hy'
      · exact absurd (hf ▸ List.mem_map_of_mem hx') hNew
      · exact ih hRest hx' hy'

theorem perm_erase {n : Nat} {v : α} {m : SlotMap α} (h : find n m = some v) : List.Perm m ((n, v) :: erase n m) := by
  induction m with
  | nil => cases h
  | cons x rest ih =>
    obtain ⟨k, w⟩ := x
    simp only [find] at h
    split at h
    · next e =>
      obtain rfl := Option.some.inj h
      simp [erase, e]
    · next e =>
      simp only [erase, e, if_false]
      exact ((ih h).cons _).trans (.swap ..)

theorem perm_insert_of_none {n : Nat} (v : α) {m : SlotMap α} (h : find n m = none) :
    List.Perm (insert n v m) ((n, v) :: m) := by
  induction m with
  | nil => exact .refl _
  | cons x rest ih =>
    obtain ⟨k, w⟩ := x
    simp only [find] at h
    split at h
    · cases h
    · next e =>
      simp only [insert, e, if_false]
      split
      · exact .refl _
      · exact ((ih h).cons _).trans (.swap ..)

theorem perm_insert_of_some {n : Nat} {u : α} (v : α) {m : SlotMap α} (hw : wf m = true) (h : find n m = some u) :
    List.Perm (insert n v m) ((n, v) :: erase n m) := by
  induction m with
  | nil => cases h
  | cons x rest ih =>
    obtain ⟨k, w⟩ := x
    obtain ⟨hAll, hRest⟩ := (wf_cons_iff k w rest).1 hw
    simp only [find] at h
    split at h
    · next e => simp [insert, erase, e]
    · next e =>
      have hlt : k < n := hAll _ ((mem_iff_find hRest).2 h)
      simp only [insert, erase, e, if_false, Nat.not_lt.2 (Nat.le_of_lt hlt)]
      exact ((ih hRest h).cons _).trans (.swap ..)

/-- An insertion for a slot that is listed leaves the slots listed as they are. -/
theorem map_fst_insert {n : Nat} {u : α} (v : α) {m : SlotMap α} (hw : wf m = true) (h : find n m = some u) :
    (insert n v m).map Prod.fst = m.map Prod.fst := by
  induction m with
  | nil => cases h
  | cons x rest ih =>
    obtain ⟨k, w⟩ := x
    obtain ⟨hAll, hRest⟩ := (wf_cons_iff k w rest).1 hw
    simp only [find] at h
    split at h
    · next e => simp [insert, e]
    · next e =>
      have hlt : k < n := hAll _ ((mem_iff_find hRest).2 h)
      simp only [insert, e, if_false, Nat.not_lt.2 (Nat.le_of_lt hlt), List.map_cons, ih hRest h]

theorem find_erase {n k : Nat} {m : SlotMap α} (hw : wf m = true) : find k (erase n m) = if k = n then none else find k m := by
  split
  · next e => rw [e]; exact find_erase_same hw
  · next e => exact find_erase_other e m

theorem find_insert (n k : Nat) (v : α) (m : SlotMap α) : find k (insert n v m) = if k = n then some v else find k m := by
  split
  · next e => rw [e]; exact find_insert_same n v m
  · next e => exact find_insert_other e v m

theorem find_ne_none_iff {n : Nat} {m : SlotMap α} (hw : wf m = true) : find n m ≠ none ↔ ∃ x ∈ m, x.1 = n := by
  rw [Option.ne_none_iff_exists']
  constructor
  · rintro ⟨v, hv⟩
    exact ⟨(n, v), (mem_iff_find hw).2 hv, rfl⟩
  · rintro ⟨⟨k, v⟩, hx, rfl⟩
    exact ⟨v, (mem_iff_find hw).1 hx⟩

theorem nodup_fst {m : SlotMap α} (hw : wf m = true) : (m.map Prod.fst).Nodup := by
  induction m with
  | nil => exact .nil
  | cons x rest ih =>
    obtain ⟨k, w⟩ := x
    obtain ⟨hAll, hRest⟩ := (wf_cons_iff k w rest).1 hw
    refine List.nodup_cons.2 ⟨fun hk => ?_, ih hRest⟩
    obtain ⟨y, hy, hyk⟩ := List.mem_map.1 hk
    have hlt := hAll y hy
    rw [hyk] at hlt
    exact Nat.lt_irrefl k hlt

end Sys2Proof.SlotMap

namespace Sys2Proof.Machine

/-! A lookup of the index (R12) -/

theorem findKey_eq_none_iff {k : RegionKey} {m : SlotMap Association} : findKey k m = none ↔ ∀ x ∈ m, x.2.key ≠ k := by
  induction m with
  | nil => simp [findKey]
  | cons x rest ih =>
    obtain ⟨n, a⟩ := x
    simp only [findKey, List.mem_cons, forall_eq_or_imp]
    split
    · next e => simp [e]
    · next e => simp [e, ih]

theorem mem_of_findKey {k : RegionKey} {m : SlotMap Association} {n : Nat} (h : findKey k m = some n) :
    ∃ a, (n, a) ∈ m ∧ a.key = k := by
  induction m with
  | nil => cases h
  | cons x rest ih =>
    obtain ⟨j, a⟩ := x
    simp only [findKey] at h
    split at h
    · next e =>
      obtain rfl := Option.some.inj h
      exact ⟨a, by simp, e⟩
    · obtain ⟨b, hb, hk⟩ := ih h
      exact ⟨b, List.mem_cons_of_mem _ hb, hk⟩

end Sys2Proof.Machine
end

section
/-! PROOFS. The laws that hold at every point within an event: those of Safety.lean but for three, which an event breaks and mends
(the service port BUSY for a request in progress, the repeat timer's condition, the tests of a READY engine for the block in progress).
`Inv` collects them, one part for each part of the state, so that a change of one part has one law to keep. -/

-- The proofs are checked one after the other: run at once, their threads would exceed the memory bound of the check.
set_option Elab.async false

namespace Sys2Proof.Machine

/-! The parts -/

/-- R100, R117, R119, R120 for one port's link. -/
def Link.OutOk (l : Link) : Prop :=
  l.outbound.length ≤ 16 ∧ (l.state ≠ .up → l.outbound = [] ∧ l.sending = none) ∧
  (l.trainingLimit.isSome = true ↔ l.state = .training)

theorem outboundLaw_iff (s : State) : OutboundLaw s ↔ ∀ q, (s.links.get q).OutOk := Iff.rfl

/-- R48, R50, R56, R63, R67, R125 for one session record. -/
structure Session.Ok (x : Session) (engine : EngineState) : Prop where
  closed : x.state.isOpen = false → x.holdings = 0 ∧ x.adoptions = 0
  lapse : x.lapseTimer.isSome = x.state.isOpen
  drain : x.drainTimer.isSome = true ↔ x.state = .draining
  epoch : x.state.isOpen = true → x.epoch ≠ 0#16
  holdings : x.holdings ≤ 1024
  starting : engine = .initializing → x.state.isOpen = false
  fence : x.fenceLine = true ↔ x.state = .fenced

/-- R188, R193: the alert line follows the records, and a class without a first record has no later kinds. -/
structure Faults.Ok (f : Faults) (enable : BitVec 5) : Prop where
  alert : f.alert = alertCondition f enable
  later : ∀ c, (f.get c).first = none → (f.get c).later = 0#5

/-- A live entry, its slot and its key. -/
def State.Lives (s : State) (n : Nat) (k : RegionKey) (e : EntryBody) : Prop := s.keyAt n = some k ∧ s.entryAt n = some e

/-- The laws of slots, index and pool (R1, R13, R14, R95, R124). -/
structure SlotsOk (s : State) : Prop where
  storeWf : s.journal.store.wf = true
  indexWf : s.journal.index.wf = true
  storeRange : ∀ x ∈ s.journal.store, x.1 < 1024
  liveRange : ∀ n, s.assoc n ≠ none → n < 1024
  poolRange : ∀ n ∈ s.journal.pool, n < 1024
  poolNodup : s.journal.pool.Nodup
  poolFree : ∀ n ∈ s.journal.pool, s.assoc n = none
  linked : ∀ n a, s.assoc n = some a → ∃ e, (s.stored n).body = .entry e ∧ a.summary = e.summary
  starting : s.engine.state = .initializing → s.journal.index = [] ∧ ∀ n ∈ s.journal.pool, n < s.engine.initPos

/-- The laws of the journal: those of its slots and those of its table of live entries (R6, R7, R11, R18, R79). -/
structure JournalOk (s : State) : Prop extends SlotsOk s where
  table : TableLaw s.Lives s.journal.orphans s.journal.stamp

/-- The laws of block retirement (R152, R153, R163, R165, R166). -/
structure BlocksOk (s : State) : Prop where
  retirement : RetirementLaw s
  poolHome : ∀ n ∈ s.journal.pool, (s.block (blockOf n)).state = .inService
  liveHome : ∀ n, s.assoc n ≠ none → (s.block (blockOf n)).state ≠ .retired
  starting : s.engine.state = .initializing → s.inProgress = none
  reserve : ∀ b, s.inProgress = some b → s.integrity.reserve = s.liveInBlock b

/-- Every position that walks the slots names one (R84, R171). -/
def Positions (s : State) : Prop :=
  s.sweeper.position < 1024 ∧ s.sweeper.endMarker < 1024 ∧ s.integrity.scrubPosition < 1024

/-- The laws that hold at every point within an event. -/
structure Inv (s : State) : Prop where
  ports : ∀ p, (s.sessions.get p).Ok s.engine.state
  faults : s.faults.Ok s.service.settings.alertEnable
  settings : SettingsLaw s
  engine : EngineLaw s
  positions : Positions s
  journal : JournalOk s
  blocks : BlocksOk s

/-- R166, R169: in READY the block in progress has live entries, and is MOVING exactly while the pool holds as many slots. -/
def Settled (s : State) : Prop :=
  s.engine.state = .ready → ∀ b, s.inProgress = some b →
    0 < s.integrity.reserve ∧ ((s.block b).state = .moving ↔ s.integrity.reserve ≤ s.pooled)

/-! Live entries -/

theorem assoc_ne_none {s : State} {n : Nat} {a : Association} (h : s.assoc n = some a) : s.assoc n ≠ none := by
  rw [h]
  exact Option.some_ne_none a

theorem entryAt_eq_some_iff {s : State} {n : Nat} {e : EntryBody} :
    s.entryAt n = some e ↔ s.assoc n ≠ none ∧ (s.stored n).body = .entry e := by
  unfold State.entryAt
  cases s.assoc n with
  | none => simp
  | some a =>
    cases (s.stored n).body with
    | freeBody => simp [BodyContent.fields]
    | entry f => simp [BodyContent.fields]

theorem lives_iff {s : State} {n : Nat} {k : RegionKey} {e : EntryBody} :
    s.Lives n k e ↔ ∃ a, s.assoc n = some a ∧ a.key = k ∧ (s.stored n).body = .entry e := by
  rw [State.Lives, entryAt_eq_some_iff, State.keyAt]
  constructor
  · rintro ⟨h, -, hb⟩
    obtain ⟨a, ha, hk⟩ := Option.map_eq_some_iff.1 h
    exact ⟨a, ha, hk, hb⟩
  · rintro ⟨a, ha, hk, hb⟩
    exact ⟨by rw [ha, ← hk]; rfl, by rw [ha]; simp, hb⟩

/-- Slots that keep their associations' keys and their bodies keep their live entries. -/
theorem lives_congr {s t : State} {n : Nat} (hk : t.keyAt n = s.keyAt n) (hb : (t.stored n).body = (s.stored n).body)
    (k : RegionKey) (e : EntryBody) : t.Lives n k e ↔ s.Lives n k e := by
  have ha : t.assoc n ≠ none ↔ s.assoc n ≠ none := by
    have : ∀ u : State, u.assoc n ≠ none ↔ u.keyAt n ≠ none := fun u => by simp [State.keyAt, State.assoc]
    rw [this, this, hk]
  rw [State.Lives, State.Lives, entryAt_eq_some_iff, entryAt_eq_some_iff, hk, hb, ha]

theorem mem_index_iff {s : State} (h : s.journal.index.wf = true) {n : Nat} {a : Association} :
    (n, a) ∈ s.journal.index ↔ s.assoc n = some a := SlotMap.mem_iff_find h

theorem exists_mem_index_iff {s : State} (h : s.journal.index.wf = true) {P : Nat → Association → Prop} :
    (∃ x ∈ s.journal.index, P x.1 x.2) ↔ ∃ n a, s.assoc n = some a ∧ P n a :=
  ⟨fun ⟨x, hx, hp⟩ => ⟨x.1, x.2, (mem_index_iff h).1 hx, hp⟩, fun ⟨n, a, ha, hp⟩ => ⟨(n, a), (mem_index_iff h).2 ha, hp⟩⟩

theorem forall_mem_index_iff {s : State} (h : s.journal.index.wf = true) {P : Nat → Association → Prop} :
    (∀ x ∈ s.journal.index, P x.1 x.2) ↔ ∀ n a, s.assoc n = some a → P n a :=
  ⟨fun hp n a ha => hp (n, a) ((mem_index_iff h).2 ha), fun hp x hx => hp x.1 x.2 ((mem_index_iff h).1 hx)⟩

/-- Under the laws, the live entries of the table are those whose bodies the statements of Safety.lean speak of. -/
theorem SlotsOk.exists_entry {s : State} (h : SlotsOk s) {n : Nat} {a : Association} (ha : s.assoc n = some a) :
    ∃ e, s.Lives n a.key e ∧ a.summary = e.summary := by
  obtain ⟨e, he, hs⟩ := h.linked n a ha
  exact ⟨e, lives_iff.2 ⟨a, ha, rfl, he⟩, hs⟩

/-! From the laws of Safety.lean to `Inv` and back -/

theorem orphanLaw_listed_iff {s : State} (h : s.journal.index.wf = true) (o : Orphan) :
    (∃ x ∈ s.journal.index, x.2.key = o.key ∧ ∃ e, (s.stored x.1).body = .entry e ∧ e.state = .orphan ∧ e.stamp = o.stamp) ↔
      ∃ n e, s.Lives n o.key e ∧ e.state = .orphan ∧ e.stamp = o.stamp := by
  rw [exists_mem_index_iff h (P := fun n a => a.key = o.key ∧
    ∃ e, (s.stored n).body = .entry e ∧ e.state = .orphan ∧ e.stamp = o.stamp)]
  constructor
  · rintro ⟨n, a, ha, hk, e, he, hs⟩
    exact ⟨n, e, lives_iff.2 ⟨a, ha, hk, he⟩, hs⟩
  · rintro ⟨n, e, hl, hs⟩
    obtain ⟨a, ha, hk, he⟩ := lives_iff.1 hl
    exact ⟨n, a, ha, hk, e, he, hs⟩

theorem tableLaw_of_laws {s : State} (hw : s.journal.index.wf = true)
    (hKeys : (s.journal.index.map fun x => x.2.key).Nodup) (hEntry : EntryLaw s) (hOrphan : OrphanLaw s) :
    TableLaw s.Lives s.journal.orphans s.journal.stamp where
  single h1 h2 := by
    have hk := h1.1.symm.trans h2.1
    have he := h1.2.symm.trans h2.2
    exact ⟨Option.some.inj hk, Option.some.inj he⟩
  keys h1 h2 := by
    obtain ⟨a, ha, hk, -⟩ := lives_iff.1 h1
    obtain ⟨b, hb, hk', -⟩ := lives_iff.1 h2
    have := SlotMap.eq_of_nodup_map hKeys ((mem_index_iff hw).2 ha) ((mem_index_iff hw).2 hb) (hk.trans hk'.symm)
    exact congrArg Prod.fst this
  fields h := by
    obtain ⟨a, ha, -, he⟩ := lives_iff.1 h
    obtain ⟨h1, h2, h3, h4, h5, h6, h7, h8⟩ := hEntry.1 _ ((mem_index_iff hw).2 ha) _ he
    exact ⟨h1, h2, h3, h4, h5, h6, h7, h8⟩
  stamps h1 h2 := by
    obtain ⟨a, ha, -, he⟩ := lives_iff.1 h1
    obtain ⟨b, hb, -, hf⟩ := lives_iff.1 h2
    exact hEntry.2 _ ((mem_index_iff hw).2 ha) _ ((mem_index_iff hw).2 hb) _ _ he hf
  sorted := hOrphan.1
  distinct := hOrphan.2.1
  listed o := (hOrphan.2.2 o).trans (orphanLaw_listed_iff hw o)

theorem Inv.of_lawful {s : State} (h : Lawful s) : Inv s := by
  obtain ⟨-, -, hSession, ⟨hFence, hAlert, -, hLater⟩, hSettings, hEngine, -, hSlot, hJournal, hEntry, hOrphan, hRetire, hReserve⟩ := h
  obtain ⟨hsw, hiw, hsr, hir, hpr, hpos, hend, hscrub⟩ := hSlot
  obtain ⟨hpn, hpf, hkeys, hlink, hinit⟩ := hJournal
  obtain ⟨-, hpHome, hlHome, hIdle, hres, -⟩ := hReserve
  refine ⟨fun p => ?_, ⟨?_, hLater⟩, hSettings, hEngine, ⟨hpos, hend, hscrub⟩, ⟨⟨hsw, hiw, hsr, ?_, hpr, hpn, ?_, ?_, hinit⟩, ?_⟩,
    ⟨hRetire, hpHome, ?_, hIdle, hres⟩⟩
  · obtain ⟨h1, h2, h3, h4, h5, h6⟩ := hSession p
    exact ⟨h1, h2, h3, h4, h5, h6, hFence p⟩
  · exact Bool.eq_iff_iff.2 (hAlert.trans (alertCondition_iff _ _).symm)
  · intro n hn
    obtain ⟨x, hx, rfl⟩ := (SlotMap.find_ne_none_iff hiw).1 hn
    exact hir x hx
  · intro n hn
    refine Decidable.not_not.1 fun hne => ?_
    obtain ⟨x, hx, rfl⟩ := (SlotMap.find_ne_none_iff hiw).1 hne
    exact hpf x hx hn
  · intro n a ha
    exact hlink (n, a) ((mem_index_iff hiw).2 ha)
  · exact tableLaw_of_laws hiw hkeys hEntry hOrphan
  · intro n hn
    obtain ⟨x, hx, rfl⟩ := (SlotMap.find_ne_none_iff hiw).1 hn
    exact hlHome x hx

theorem Inv.sessionLaw {s : State} (h : Inv s) : SessionLaw s := fun p =>
  have hp := h.ports p
  ⟨hp.closed, hp.lapse, hp.drain, hp.epoch, hp.holdings, hp.starting⟩

theorem Inv.lineLaw {s : State} (h : Inv s) (hBusy : s.service.target = .busy ↔ s.service.inProgress.isSome = true) :
    LineLaw s :=
  ⟨fun p => (h.ports p).fence, by rw [h.faults.alert]; exact alertCondition_iff _ _, hBusy, h.faults.later⟩

theorem Inv.slotLaw {s : State} (h : Inv s) : SlotLaw s :=
  ⟨h.journal.storeWf, h.journal.indexWf, h.journal.storeRange,
    fun x hx => h.journal.liveRange x.1 ((SlotMap.find_ne_none_iff h.journal.indexWf).2 ⟨x, hx, rfl⟩), h.journal.poolRange, h.positions⟩

theorem Inv.journalLaw {s : State} (h : Inv s) : JournalLaw s := by
  have hj := h.journal
  refine ⟨hj.poolNodup, fun x hx hp => ?_, ?_, fun x hx => hj.linked x.1 x.2 ((mem_index_iff hj.indexWf).1 hx), hj.starting⟩
  · exact (SlotMap.find_ne_none_iff hj.indexWf).2 ⟨x, hx, rfl⟩ (hj.poolFree x.1 hp)
  · refine List.pairwise_map.2 ((List.pairwise_map.1 (SlotMap.nodup_fst hj.indexWf)).imp_of_mem fun {x y} hx hy hne hk => hne ?_)
    have hx' := (mem_index_iff hj.indexWf).1 hx
    have hy' := (mem_index_iff hj.indexWf).1 hy
    obtain ⟨e, he, -⟩ := hj.exists_entry hx'
    obtain ⟨f, hf, -⟩ := hj.exists_entry hy'
    exact hj.table.keys (hk ▸ he) hf

theorem Inv.entryLaw {s : State} (h : Inv s) : EntryLaw s := by
  have hj := h.journal
  have live : ∀ x ∈ s.journal.index, ∀ e, (s.stored x.1).body = .entry e → s.Lives x.1 x.2.key e := fun x hx e he =>
    lives_iff.2 ⟨x.2, (mem_index_iff hj.indexWf).1 hx, rfl, he⟩
  constructor
  · intro x hx e he
    have hf := hj.table.fields (live x hx e he)
    exact ⟨hf.opened, hf.orphan, hf.adopted, hf.holds, hf.adopter, hf.note, hf.stampless, hf.stamped⟩
  · intro x hx y hy e f he hf
    exact hj.table.stamps (live x hx e he) (live y hy f hf)

theorem Inv.orphanLaw {s : State} (h : Inv s) : OrphanLaw s :=
  ⟨h.journal.table.sorted, h.journal.table.distinct,
    fun o => (h.journal.table.listed o).trans (orphanLaw_listed_iff h.journal.indexWf o).symm⟩

end Sys2Proof.Machine
end

section
/-! PROOFS. R16's bound: live, pooled and retired slots are distinct slots of the 1024. -/

-- The proofs are checked one after the other: run at once, their threads would exceed the memory bound of the check.
set_option Elab.async false

namespace Sys2Proof.Machine

theorem countP_range_blocks (P : Nat → Bool) (k : Nat) :
    (List.range (64 * k)).countP (fun n => P (blockOf n)) = 64 * (List.range k).countP P := by
  induction k with
  | zero => rfl
  | succ k ih =>
    have hBlock : (List.range 64).countP ((fun n => P (blockOf n)) ∘ (64 * k + ·)) = if P k then 64 else 0 := by
      have : ∀ n ∈ List.range 64, ((fun n => P (blockOf n)) ∘ (64 * k + ·)) n = P k := by
        intro n hn
        have hn' := List.mem_range.1 hn
        have : blockOf (64 * k + n) = k := by
          unfold blockOf Config.slotsPerBlock
          omega
        simp [this]
      rw [List.countP_congr (q := fun _ => P k) fun n hn => by rw [this n hn]]
      cases P k <;> simp
    rw [Nat.mul_succ, List.range_add, List.countP_append, ih, List.countP_map, hBlock, List.range_succ, List.countP_append,
      List.countP_singleton, Nat.mul_add]
    split <;> simp

theorem slots_bound {s : State} (hj : JournalOk s) (hb : BlocksOk s) :
    s.journal.index.length + s.journal.pool.length + 64 * s.retiredCount ≤ 1024 := by
  let retired : List Nat := (List.range 1024).filter fun n => s.blockRetired (blockOf n)
  have hRetired : retired.length = 64 * s.retiredCount := by
    rw [← List.countP_eq_length_filter]
    exact countP_range_blocks (fun b => s.blockRetired b) 16
  have mem_retired : ∀ n ∈ retired, (s.block (blockOf n)).state = .retired := fun n hn =>
    of_decide_eq_true (List.mem_filter.1 hn).2
  have mem_slots : ∀ n ∈ s.journal.index.map Prod.fst, s.assoc n ≠ none := fun n hn => by
    obtain ⟨x, hx, rfl⟩ := List.mem_map.1 hn
    exact (SlotMap.find_ne_none_iff hj.indexWf).2 ⟨x, hx, rfl⟩
  have hNodup : (s.journal.index.map Prod.fst ++ s.journal.pool ++ retired).Nodup := by
    refine List.nodup_append.2 ⟨List.nodup_append.2 ⟨SlotMap.nodup_fst hj.indexWf, hj.poolNodup, ?_⟩,
      List.nodup_range.filter _, ?_⟩
    · rintro n hn m hm rfl
      exact mem_slots n hn (hj.poolFree n hm)
    · rintro n hn m hm rfl
      have hr := mem_retired n hm
      rcases List.mem_append.1 hn with hn | hn
      · exact hb.liveHome n (mem_slots n hn) hr
      · have := hb.poolHome n hn
        rw [hr] at this
        cases this
  have hSub : (s.journal.index.map Prod.fst ++ s.journal.pool ++ retired) ⊆ List.range 1024 := by
    intro n hn
    rw [List.mem_range]
    rcases List.mem_append.1 hn with hn | hn
    · rcases List.mem_append.1 hn with hn | hn
      · exact hj.liveRange n (mem_slots n hn)
      · exact hj.poolRange n hn
    · exact List.mem_range.1 (List.mem_filter.1 hn).1
  have := List.Nodup.length_le_of_subset hNodup hSub
  simpa [hRetired, Nat.add_assoc] using this

theorem Inv.reserveLaw {s : State} (h : Inv s) (hs : Settled s) : ReserveLaw s :=
  ⟨slots_bound h.journal h.blocks, h.blocks.poolHome,
    fun x hx => h.blocks.liveHome x.1 ((SlotMap.find_ne_none_iff h.journal.indexWf).2 ⟨x, hx, rfl⟩),
    h.blocks.starting, h.blocks.reserve, hs⟩

theorem Settled.of_lawful {s : State} (h : Lawful s) : Settled s := by
  obtain ⟨-, -, -, -, -, -, -, -, -, -, -, -, -, -, -, -, -, hSettled⟩ := h
  exact hSettled

end Sys2Proof.Machine
end
section
/-! PROOFS. What an operation within an event keeps: the law of the outbound queues, and `Inv`. A change of one part of the state has one
lemma here, whose hypothesis is the law of that part; whatever the frame lemmas show unchanged is found by `simp`. -/

namespace Sys2Proof.Machine

/-! Laws under an unchanged part of the state -/

theorem Positions.of_eq {s t : State} (h : Positions s) (h1 : t.sweeper = s.sweeper := by simp)
    (h2 : t.integrity.scrubPosition = s.integrity.scrubPosition := by simp) : Positions t := by
  unfold Positions
  rw [h1, h2]
  exact h

theorem EngineLaw.of_eq {s t : State} (h : EngineLaw s) (h1 : t.engine.state = s.engine.state := by simp)
    (h2 : t.engine.initPos = s.engine.initPos := by simp)
    (h3 : t.engine.rememberedFreeze = s.engine.rememberedFreeze := by simp)
    (h4 : t.integrity.leakTimer = s.integrity.leakTimer := by simp)
    (h5 : t.arbiter.scrubTimer = s.arbiter.scrubTimer := by simp) (h6 : t.arbiter.scrubDue = s.arbiter.scrubDue := by simp)
    (h7 : t.arbiter.sweepRequest = s.arbiter.sweepRequest := by simp) (h8 : t.service.settings = s.service.settings := by simp)
    (h9 : t.journal.stamp = s.journal.stamp := by simp) (h10 : t.journal.generation = s.journal.generation := by simp)
    (h11 : t.sweeper.pending = s.sweeper.pending := by simp) : EngineLaw t := by
  unfold EngineLaw
  rw [settings_eq, h1, h2, h3, h4, h5, h6, h7, h8, h9, h10, h11]
  exact h

theorem JournalOk.of_eq {s t : State} (h : JournalOk s) (h1 : t.journal.store = s.journal.store := by simp)
    (h2 : t.journal.index = s.journal.index := by simp) (h3 : t.journal.pool = s.journal.pool := by simp)
    (h4 : t.journal.orphans = s.journal.orphans := by simp) (h5 : t.journal.stamp = s.journal.stamp := by simp)
    (h6 : t.freeCount = s.freeCount := by simp) (h7 : t.engine.state = s.engine.state := by simp)
    (h8 : t.engine.initPos = s.engine.initPos := by simp) : JournalOk t := by
  have hAssoc : ∀ n, t.assoc n = s.assoc n := fun n => by rw [assoc_eq, assoc_eq, h2]
  have hStored : ∀ n, t.stored n = s.stored n := fun n => by rw [stored_eq, stored_eq, h1, h6]
  have hLives : ∀ n k e, t.Lives n k e ↔ s.Lives n k e := fun n =>
    lives_congr (by rw [keyAt_eq, keyAt_eq, h2]) (by rw [hStored])
  obtain ⟨⟨a1, a2, a3, a4, a5, a6, a7, a8, a9⟩, a10⟩ := h
  refine ⟨⟨h1 ▸ a1, h2 ▸ a2, h1 ▸ a3, fun n => hAssoc n ▸ a4 n, h3 ▸ a5, h3 ▸ a6, fun n => h3 ▸ hAssoc n ▸ a7 n,
    fun n => hAssoc n ▸ hStored n ▸ a8 n, ?_⟩, ?_⟩
  · rw [h7, h8, h2, h3]
    exact a9
  · rw [h4, h5]
    exact a10.congr hLives

theorem inProgress_of_blocks {s t : State} (h : t.integrity.blocks = s.integrity.blocks) : t.inProgress = s.inProgress := by
  simp only [State.inProgress, block_eq, Integrity.block, h]

theorem retiredCount_of_blocks {s t : State} (h : t.integrity.blocks = s.integrity.blocks) : t.retiredCount = s.retiredCount := by
  have hb : t.block = s.block := funext fun b => by simp only [block_eq, Integrity.block, h]
  rw [State.retiredCount, State.retiredCount, hb]

theorem RetirementLaw.of_eq {s t : State} (h : RetirementLaw s) (h1 : t.integrity.blocks = s.integrity.blocks := by simp)
    (h2 : t.integrity.retireQueue = s.integrity.retireQueue := by simp)
    (h3 : t.integrity.reserve = s.integrity.reserve := by simp) : RetirementLaw t := by
  have hb : ∀ b, t.block b = s.block b := fun b => by simp only [block_eq, Integrity.block, h1]
  unfold RetirementLaw State.retirementCount
  simp only [hb, h2, h3, inProgress_of_blocks h1, retiredCount_of_blocks h1]
  exact h

theorem BlocksOk.of_eq {s t : State} (h : BlocksOk s) (h1 : t.integrity.blocks = s.integrity.blocks := by simp)
    (h2 : t.integrity.retireQueue = s.integrity.retireQueue := by simp)
    (h3 : t.integrity.reserve = s.integrity.reserve := by simp) (h4 : t.journal.pool = s.journal.pool := by simp)
    (h5 : t.journal.index.map Prod.fst = s.journal.index.map Prod.fst := by simp)
    (h6 : ∀ n, t.assoc n ≠ none ↔ s.assoc n ≠ none := by simp)
    (h7 : t.engine.state = s.engine.state := by simp) : BlocksOk t := by
  have hb : ∀ b, t.block b = s.block b := fun b => by simp only [block_eq, Integrity.block, h1]
  have hl : ∀ b, t.liveInBlock b = s.liveInBlock b := fun b => by
    have : ∀ l : SlotMap Association, l.countP (fun x => decide (blockOf x.1 = b)) =
        (l.map Prod.fst).countP (fun n => decide (blockOf n = b)) := fun l => by rw [List.countP_map]; rfl
    rw [State.liveInBlock, State.liveInBlock, this, this, h5]
  obtain ⟨a1, a2, a3, a4, a5⟩ := h
  refine ⟨a1.of_eq h1 h2 h3, ?_, fun n hn => hb _ ▸ a3 n ((h6 n).1 hn), ?_, ?_⟩
  · rw [h4]
    exact fun n hn => hb _ ▸ a2 n hn
  · rw [h7, inProgress_of_blocks h1]
    exact a4
  · intro b
    rw [inProgress_of_blocks h1, h3, hl]
    exact a5 b

/-- The laws rest on these parts of the state alone. -/
theorem Inv.of_eq {s t : State} (h : Inv s) (h1 : t.sessions = s.sessions := by simp)
    (h2 : t.arbiter.scrubTimer = s.arbiter.scrubTimer := by simp) (h3 : t.arbiter.scrubDue = s.arbiter.scrubDue := by simp)
    (h4 : t.arbiter.sweepRequest = s.arbiter.sweepRequest := by simp) (h5 : t.journal.store = s.journal.store := by simp)
    (h6 : t.journal.index = s.journal.index := by simp) (h7 : t.journal.pool = s.journal.pool := by simp)
    (h8 : t.journal.orphans = s.journal.orphans := by simp) (h9 : t.journal.stamp = s.journal.stamp := by simp)
    (h10 : t.journal.generation = s.journal.generation := by simp) (h11 : t.engine.state = s.engine.state := by simp)
    (h12 : t.engine.rememberedFreeze = s.engine.rememberedFreeze := by simp)
    (h13 : t.engine.initPos = s.engine.initPos := by simp) (h14 : t.sweeper = s.sweeper := by simp)
    (h15 : t.integrity = s.integrity := by simp) (h16 : t.service = s.service := by simp) (h17 : t.faults = s.faults := by simp)
    (h18 : t.freeCount = s.freeCount := by simp) : Inv t := by
  obtain ⟨a1, a2, a3, a4, a5, a6, a7⟩ := h
  refine ⟨?_, ?_, ?_, a4.of_eq h11 h13 h12 (by rw [h15]) h2 h3 h4 (by rw [h16]) h9 h10 (by rw [h14]),
    a5.of_eq h14 (by rw [h15]), a6.of_eq h5 h6 h7 h8 h9 h18 h11 h13,
    a7.of_eq (by rw [h15]) (by rw [h15]) (by rw [h15]) h7 (by rw [h6]) (fun n => by rw [assoc_eq, assoc_eq, h6]) h11⟩
  · rw [h1, h11]
    exact a1
  · rw [h17, h16]
    exact a2
  · unfold SettingsLaw
    rw [settings_eq, h16]
    exact a3

/-! What an operation keeps -/

/-- From `s` to `t` the outbound queues' law and `Inv` are kept, the service port has the target state and the request it had, and no
block has come back into service. -/
structure Kept (s t : State) : Prop where
  outbound : OutboundLaw s → OutboundLaw t
  inv : Inv s → Inv t
  target : t.service.target = s.service.target
  waiting : t.service.inProgress = s.service.inProgress
  retiring : ∀ b, (s.block b).state ≠ .inService → (t.block b).state ≠ .inService

namespace Kept

variable {s t u : State}

theorem refl (s : State) : Kept s s := ⟨id, id, rfl, rfl, fun _ h => h⟩

theorem trans (h : Kept s t) (h' : Kept t u) : Kept s u :=
  ⟨h'.outbound ∘ h.outbound, h'.inv ∘ h.inv, h'.target.trans h.target, h'.waiting.trans h.waiting,
    fun b hb => h'.retiring b (h.retiring b hb)⟩

theorem foldl {α : Type} {f : State → α → State} (hf : ∀ t x, Kept t (f t x)) (l : List α) (s : State) : Kept s (l.foldl f s) := by
  induction l generalizing s with
  | nil => exact .refl s
  | cons x rest ih => exact (hf s x).trans (ih (f s x))

/-- What changes links and notices alone. -/
theorem of_told (ho : OutboundLaw s → OutboundLaw t) (h1 : t.sessions = s.sessions := by simp)
    (h2 : t.arbiter.scrubTimer = s.arbiter.scrubTimer := by simp) (h3 : t.arbiter.scrubDue = s.arbiter.scrubDue := by simp)
    (h4 : t.arbiter.sweepRequest = s.arbiter.sweepRequest := by simp) (h5 : t.journal.store = s.journal.store := by simp)
    (h6 : t.journal.index = s.journal.index := by simp) (h7 : t.journal.pool = s.journal.pool := by simp)
    (h8 : t.journal.orphans = s.journal.orphans := by simp) (h9 : t.journal.stamp = s.journal.stamp := by simp)
    (h10 : t.journal.generation = s.journal.generation := by simp) (h11 : t.engine.state = s.engine.state := by simp)
    (h12 : t.engine.rememberedFreeze = s.engine.rememberedFreeze := by simp)
    (h13 : t.engine.initPos = s.engine.initPos := by simp) (h14 : t.sweeper = s.sweeper := by simp)
    (h15 : t.integrity = s.integrity := by simp) (h16 : t.service = s.service := by simp) (h17 : t.faults = s.faults := by simp)
    (h18 : t.freeCount = s.freeCount := by simp) : Kept s t :=
  ⟨ho, fun h => h.of_eq h1 h2 h3 h4 h5 h6 h7 h8 h9 h10 h11 h12 h13 h14 h15 h16 h17 h18, by rw [h16], by rw [h16],
    fun b hb => by rwa [block_eq, h15, ← block_eq]⟩

end Kept

theorem OutboundLaw.of_links {s t : State} (h : t.links = s.links) (hs : OutboundLaw s) : OutboundLaw t := by
  rw [outboundLaw_iff, h]
  exact hs

theorem OutboundLaw.setLink {s : State} {p : Port} {l : Link} (hl : (s.links.get p).OutOk → l.OutOk) (hs : OutboundLaw s) :
    OutboundLaw (s.setLink p l) := by
  intro q
  rw [link_eq, setLink_links, PerPort.get_set]
  split
  · exact hl (hs p)
  · exact hs q

theorem Kept.setLink {s : State} {p : Port} {l : Link} (hl : (s.links.get p).OutOk → l.OutOk) : Kept s (s.setLink p l) :=
  .of_told (.setLink hl)

theorem Kept.setNotices (s : State) (x : Notices) : Kept s (s.setNotices x) := .of_told (.of_links rfl)

theorem Kept.setSession {s : State} {p : Port} {x : Session}
    (hx : SettingsLaw s → (s.sessions.get p).Ok s.engine.state → x.Ok s.engine.state) : Kept s (s.setSession p x) := by
  refine ⟨.of_links rfl, fun h => ⟨fun q => ?_, h.faults, h.settings, h.engine, h.positions, h.journal.of_eq, h.blocks.of_eq⟩, rfl, rfl, fun _ hb => hb⟩
  rw [setSession_sessions, PerPort.get_set]
  split
  · exact hx h.settings (h.ports p)
  · exact h.ports q

/-- The pointer of the arbiter, and what it remembers of the last grant, are under no law. -/
theorem Kept.setPointer (s : State) (pl : Place) (b : Bool) :
    Kept s (s.setArbiter { s.arbiter with pointer := pl, lastWasScrub := b }) := .of_told (.of_links rfl)

theorem Kept.setArmed (s : State) (b : Bool) : Kept s (s.setEngine { s.engine with armed := b }) := .of_told (.of_links rfl)

theorem Kept.setCompromised (s : State) (b : Bool) : Kept s (s.setJournal { s.journal with compromised := b }) :=
  .of_told (.of_links rfl)

/-- The sweeper moves or is marked, a standing request only while it is pending. -/
theorem Kept.setSweeper {s : State} {x : Sweeper} (hp : s.sweeper.position < 1024 → x.position < 1024 ∧ x.endMarker < 1024)
    (hPending : s.sweeper.pending = true → x.pending = true) : Kept s (s.setSweeper x) := by
  refine ⟨.of_links rfl, fun h => ⟨h.ports, h.faults, h.settings, ?_, ⟨(hp h.positions.1).1, (hp h.positions.1).2, h.positions.2.2⟩,
    h.journal.of_eq, h.blocks.of_eq⟩, rfl, rfl, fun _ hb => hb⟩
  obtain ⟨h1, h2, h3, h4, h5, h6, h7, h8⟩ := h.engine
  exact ⟨h1, h2, h3, h4, h5, h6, h7, fun hr => ⟨hPending (h8 hr).1, (h8 hr).2⟩⟩

/-- Records in which no class has later kinds without a first record, with the line judged on them. -/
theorem Kept.setFaults {s : State} {x : Faults}
    (hx : (∀ c, (s.faults.get c).first = none → (s.faults.get c).later = 0#5) → ∀ c, (x.get c).first = none → (x.get c).later = 0#5) :
    Kept s (s.setFaults x).judgeAlert := by
  refine ⟨.of_links rfl, fun h => ⟨h.ports, ⟨rfl, fun c => ?_⟩, h.settings, h.engine, h.positions, h.journal.of_eq, h.blocks.of_eq⟩,
    rfl, rfl, fun _ hb => hb⟩
  rw [judgeAlert_get]
  exact hx h.faults.later c

theorem kept_capture (s : State) (f : FaultRecord) : Kept s (s.capture f) := by
  refine .setFaults fun h c => ?_
  rw [Faults.get_put]
  split
  · split
    · nofun
    · next hFirst => exact fun h0 => absurd (hFirst.symm.trans h0) nofun
  · exact h c

end Sys2Proof.Machine
end

section
/-! PROOFS. Counts over the index, as counts over the slot numbers: a change at one slot changes a count by what that slot counts. -/

-- The proofs are checked one after the other: run at once, their threads would exceed the memory bound of the check.
set_option Elab.async false

namespace Sys2Proof.Machine

theorem countP_range_change {P Q : Nat → Bool} {n N : Nat} (hn : n < N) (h : ∀ m, m ≠ n → P m = Q m) :
    (List.range N).countP P + (Q n).toNat = (List.range N).countP Q + (P n).toNat := by
  induction N with
  | zero => exact absurd hn (Nat.not_lt_zero n)
  | succ N ih =>
    rw [List.range_succ, List.countP_append, List.countP_append, List.countP_singleton, List.countP_singleton]
    by_cases hN : n = N
    · have hBelow : (List.range N).countP P = (List.range N).countP Q :=
        List.countP_congr fun m hm => by rw [h m (by have := List.mem_range.1 hm; omega)]
      rw [hBelow, hN]
      cases P N <;> cases Q N <;> rfl
    · have := ih (by omega)
      rw [h N (Ne.symm hN)]
      omega

theorem countP_index {s : State} (h : SlotsOk s) (P : Nat → Bool) :
    s.journal.index.countP (fun x => P x.1) = (List.range 1024).countP fun n => (s.assoc n).isSome && P n := by
  have hMap : s.journal.index.countP (fun x => P x.1) = (s.journal.index.map Prod.fst).countP P := by
    rw [List.countP_map]
    rfl
  rw [hMap, List.countP_eq_length_filter, List.countP_eq_length_filter]
  refine List.Perm.length_eq ((List.perm_ext_iff_of_nodup ((SlotMap.nodup_fst h.indexWf).filter _) (List.nodup_range.filter _)).2
    fun n => ?_)
  have hLive : n ∈ s.journal.index.map Prod.fst ↔ s.assoc n ≠ none := by
    rw [assoc_eq, SlotMap.find_ne_none_iff h.indexWf, List.mem_map]
  have hRange := h.liveRange n
  simp only [List.mem_filter, hLive, List.mem_range, Bool.and_eq_true, Option.isSome_iff_ne_none]
  exact ⟨fun ⟨h1, h2⟩ => ⟨hRange h1, h1, h2⟩, fun ⟨_, h1, h2⟩ => ⟨h1, h2⟩⟩

theorem liveInBlock_eq {s : State} (h : SlotsOk s) (b : Nat) :
    s.liveInBlock b = (List.range 1024).countP fun n => (s.assoc n).isSome && decide (blockOf n = b) :=
  countP_index h fun n => decide (blockOf n = b)

end Sys2Proof.Machine
end
section
/-! PROOFS. A change of one slot: what is written there, what the index then says of it, and the laws of slots and blocks that the
change keeps. -/

namespace Sys2Proof.Machine

theorem stored_of_insert {s t : State} {n : Nat} {x : StoredSlot} (h : t.journal.store = SlotMap.insert n x s.journal.store)
    (hf : t.freeCount = s.freeCount) (m : Nat) : t.stored m = if m = n then x else s.stored m := by
  rw [stored_eq, stored_eq, h, hf, SlotMap.find_insert]
  split <;> rfl

/-- The laws of slots, after one slot's storage and association have changed and the pool has lost slots at most. -/
theorem SlotsOk.change {s t : State} (h : SlotsOk s) {n : Nat} {x : StoredSlot} (hn : n < 1024)
    (hStore : t.journal.store = SlotMap.insert n x s.journal.store) (hWf : t.journal.index.wf = true)
    (hOther : ∀ m, m ≠ n → t.assoc m = s.assoc m)
    (hHere : ∀ a, t.assoc n = some a → ∃ e, x.body = .entry e ∧ a.summary = e.summary)
    (hPool : t.journal.pool.Sublist s.journal.pool) (hFree : t.assoc n ≠ none → n ∉ t.journal.pool)
    (hStart : t.engine.state = .initializing → t.journal.index = []) (h1 : t.freeCount = s.freeCount := by simp)
    (h2 : t.engine.state = s.engine.state := by simp) (h3 : t.engine.initPos = s.engine.initPos := by simp) : SlotsOk t where
  storeWf := hStore ▸ SlotMap.wf_insert n x h.storeWf
  indexWf := hWf
  storeRange y hy := by
    rw [hStore] at hy
    rcases SlotMap.mem_insert hy with rfl | hy
    · exact hn
    · exact h.storeRange y hy
  liveRange m hm := by
    by_cases hmn : m = n
    · exact hmn ▸ hn
    · exact h.liveRange m (hOther m hmn ▸ hm)
  poolRange m hm := h.poolRange m (hPool.subset hm)
  poolNodup := h.poolNodup.sublist hPool
  poolFree m hm := by
    by_cases hmn : m = n
    · exact Decidable.not_not.1 fun hne => hFree (hmn ▸ hne) (hmn ▸ hm)
    · exact hOther m hmn ▸ h.poolFree m (hPool.subset hm)
  linked m a ha := by
    rw [stored_of_insert hStore h1]
    split
    · next hmn => exact hHere a (hmn ▸ ha)
    · next hmn => exact h.linked m a (hOther m hmn ▸ ha)
  starting hi := ⟨hStart hi, fun m hm => h3 ▸ (h.starting (h2 ▸ hi)).2 m (hPool.subset hm)⟩

theorem SlotsOk.not_starting {s : State} (h : SlotsOk s) {n : Nat} (hn : s.assoc n ≠ none) : s.engine.state ≠ .initializing := by
  intro hi
  rw [assoc_eq, (h.starting hi).1] at hn
  exact hn rfl

theorem lives_of_change {s t : State} {n : Nat} {x : StoredSlot} (hStore : t.journal.store = SlotMap.insert n x s.journal.store)
    (hf : t.freeCount = s.freeCount) {m : Nat} (hm : m ≠ n) (hOther : t.assoc m = s.assoc m) (k : RegionKey) (e : EntryBody) :
    t.Lives m k e ↔ s.Lives m k e := by
  refine lives_congr ?_ ?_ k e
  · rw [State.keyAt, hOther]
    rfl
  · rw [stored_of_insert hStore hf, if_neg hm]

/-! The storage of a slot -/

/-- A slot's storage is written, a live slot's with the body it had. -/
theorem JournalOk.put {s t : State} (h : JournalOk s) {n : Nat} {x : StoredSlot} (hn : n < 1024)
    (hBody : s.assoc n ≠ none → x.body = (s.stored n).body) (hStore : t.journal.store = SlotMap.insert n x s.journal.store)
    (h1 : t.journal.index = s.journal.index := by simp) (h2 : t.journal.pool = s.journal.pool := by simp)
    (h3 : t.journal.orphans = s.journal.orphans := by simp) (h4 : t.journal.stamp = s.journal.stamp := by simp)
    (h5 : t.freeCount = s.freeCount := by simp) (h6 : t.engine.state = s.engine.state := by simp)
    (h7 : t.engine.initPos = s.engine.initPos := by simp) : JournalOk t := by
  have hAssoc : ∀ m, t.assoc m = s.assoc m := fun m => by rw [assoc_eq, assoc_eq, h1]
  have hBodies : ∀ m, s.assoc m ≠ none → (t.stored m).body = (s.stored m).body := fun m hm => by
    rw [stored_of_insert hStore h5]
    split
    · next hmn => rw [hmn]; exact hBody (hmn ▸ hm)
    · rfl
  refine ⟨h.toSlotsOk.change hn hStore (h1 ▸ h.indexWf) (fun m _ => hAssoc m) (fun a ha => ?_) (h2 ▸ .refl _) (fun hne hp => ?_)
    (fun hi => h1 ▸ (h.starting (h6 ▸ hi)).1) h5 h6 h7, ?_⟩
  · rw [hAssoc] at ha
    rw [hBody (assoc_ne_none ha)]
    exact h.linked n a ha
  · exact hne ((hAssoc n).trans (h.poolFree n (h2 ▸ hp)))
  · rw [h3, h4]
    refine h.table.congr fun m k e => ?_
    simp only [lives_iff, hAssoc]
    exact exists_congr fun a => and_congr_right fun ha => by rw [hBodies m (assoc_ne_none ha)]

/-- Slots leave the pool. -/
theorem JournalOk.withdraw {s t : State} (h : JournalOk s) (hPool : t.journal.pool.Sublist s.journal.pool)
    (h0 : t.journal.store = s.journal.store := by simp)
    (h1 : t.journal.index = s.journal.index := by simp)
    (h3 : t.journal.orphans = s.journal.orphans := by simp) (h4 : t.journal.stamp = s.journal.stamp := by simp)
    (h5 : t.freeCount = s.freeCount := by simp) (h6 : t.engine.state = s.engine.state := by simp)
    (h7 : t.engine.initPos = s.engine.initPos := by simp) : JournalOk t := by
  have hOk : JournalOk { s with journal := { s.journal with pool := t.journal.pool } } :=
    ⟨⟨h.storeWf, h.indexWf, h.storeRange, h.liveRange, fun n hn => h.poolRange n (hPool.subset hn), h.poolNodup.sublist hPool,
      fun n hn => h.poolFree n (hPool.subset hn), h.linked,
      fun hi => ⟨(h.starting hi).1, fun n hn => (h.starting hi).2 n (hPool.subset hn)⟩⟩, h.table⟩
  exact hOk.of_eq h0 h1 rfl h3 h4 h5 h6 h7

/-! An entry goes -/

theorem assoc_erase {s t : State} {n : Nat} (hw : s.journal.index.wf = true) (h : t.journal.index = SlotMap.erase n s.journal.index)
    (m : Nat) : t.assoc m = if m = n then none else s.assoc m := by
  rw [assoc_eq, assoc_eq, h, SlotMap.find_erase hw]

theorem assoc_insert {s t : State} {n : Nat} {a : Association} (h : t.journal.index = SlotMap.insert n a s.journal.index)
    (m : Nat) : t.assoc m = if m = n then some a else s.assoc m := by
  rw [assoc_eq, assoc_eq, h, SlotMap.find_insert]

theorem erase_nil_of_nil {α : Type} {n : Nat} {m : SlotMap α} (h : m = []) : SlotMap.erase n m = [] := by rw [h]; rfl

/-- The entry with key `k` leaves slot `n`, the index and the orphan list. -/
theorem JournalOk.erase {s t : State} (h : JournalOk s) {n : Nat} {k : RegionKey} {e : EntryBody} (hl : s.Lives n k e)
    (h0 : t.journal.store = SlotMap.insert n freeSlot s.journal.store)
    (h1 : t.journal.index = SlotMap.erase n s.journal.index)
    (h2 : t.journal.orphans = s.journal.orphans.filter fun o => o.key ≠ k)
    (h3 : t.journal.pool = s.journal.pool := by simp) (h4 : t.journal.stamp = s.journal.stamp := by simp)
    (h5 : t.freeCount = s.freeCount := by simp) (h6 : t.engine.state = s.engine.state := by simp)
    (h7 : t.engine.initPos = s.engine.initPos := by simp) : JournalOk t := by
  obtain ⟨a, ha, -, -⟩ := lives_iff.1 hl
  have hAssoc := assoc_erase h.indexWf h1
  refine ⟨h.toSlotsOk.change (h.liveRange n (assoc_ne_none ha)) h0 (h1 ▸ SlotMap.wf_erase n h.indexWf) (fun m hm => ?_) (fun b hb => ?_)
    (h3 ▸ .refl _) (fun hne => ?_) (fun hi => ?_) h5 h6 h7, ?_⟩
  · rw [hAssoc, if_neg hm]
  · rw [hAssoc, if_pos rfl] at hb
    cases hb
  · rw [hAssoc, if_pos rfl] at hne
    exact absurd rfl hne
  · rw [h1]
    exact erase_nil_of_nil (h.starting (h6 ▸ hi)).1
  · rw [h2, h4]
    refine h.table.remove hl fun m l f => ?_
    by_cases hm : m = n
    · have hNone : ¬t.Lives m l f := fun ht => by
        obtain ⟨b, hb, -, -⟩ := lives_iff.1 ht
        rw [hAssoc, if_pos hm] at hb
        cases hb
      simp [hm, hm ▸ hNone]
    · rw [lives_of_change h0 h5 hm (by rw [hAssoc, if_neg hm])]
      simp [hm]

/-! An entry's fields change -/

theorem TableLaw.rebody {live live' : Nat → RegionKey → EntryBody → Prop} {orphans : List Orphan} {counter : Stamp}
    (h : TableLaw live orphans counter) {n : Nat} {k : RegionKey} {e e' : EntryBody} (hn : live n k e) (hOk : EntryOk e' counter)
    (hStamp : e'.stamp = e.stamp ∨ e'.stamp = 0#64)
    (hl : ∀ m l f, live' m l f ↔ (m = n ∧ l = k ∧ f = e') ∨ (m ≠ n ∧ live m l f)) :
    TableLaw live' (if e'.state = .orphan then insertOrphan ⟨k, e'.stamp⟩ (orphans.filter fun o => o.key ≠ k)
      else orphans.filter fun o => o.key ≠ k) counter := by
  have hGone := h.remove (live' := fun m l f => m ≠ n ∧ live m l f) hn fun _ _ _ => Iff.rfl
  refine hGone.add hOk (fun l f hf => hf.1 rfl) (fun m f hf => hf.1 (h.keys hf.2 hn)) (fun m l f hf hs => ?_) hl
  rcases hStamp with hs' | hs'
  · exact Decidable.not_not.1 fun h0 => hf.1 (h.stamps hf.2 hn (hs.symm.trans hs') (hs ▸ h0))
  · exact hs'

/-- The body of a live slot takes other fields; the orphan list has the entry while it is ORPHAN. -/
theorem JournalOk.rebody {s t : State} (h : JournalOk s) {n : Nat} {k : RegionKey} {e e' : EntryBody} {x : StoredSlot}
    (hl : s.Lives n k e) (hOk : EntryOk e' s.journal.stamp) (hStamp : e'.stamp = e.stamp ∨ e'.stamp = 0#64)
    (h0 : t.journal.store = SlotMap.insert n x s.journal.store) (hx : x.body = .entry e')
    (h1 : t.journal.index = SlotMap.insert n { key := k, summary := e'.summary } s.journal.index)
    (h2 : t.journal.orphans = if e'.state = .orphan
      then insertOrphan ⟨k, e'.stamp⟩ (s.journal.orphans.filter fun o => o.key ≠ k) else s.journal.orphans.filter fun o => o.key ≠ k)
    (h3 : t.journal.pool = s.journal.pool := by simp) (h4 : t.journal.stamp = s.journal.stamp := by simp)
    (h5 : t.freeCount = s.freeCount := by simp) (h6 : t.engine.state = s.engine.state := by simp)
    (h7 : t.engine.initPos = s.engine.initPos := by simp) : JournalOk t := by
  obtain ⟨a, ha, hk, -⟩ := lives_iff.1 hl
  have hLive : s.assoc n ≠ none := assoc_ne_none ha
  have hAssoc := assoc_insert h1
  refine ⟨h.toSlotsOk.change (h.liveRange n hLive) h0 (h1 ▸ SlotMap.wf_insert n _ h.indexWf) (fun m hm => ?_) (fun b hb => ?_)
    (h3 ▸ .refl _) (fun _ hp => ?_) (fun hi => ?_) h5 h6 h7, ?_⟩
  · rw [hAssoc, if_neg hm]
  · rw [hAssoc, if_pos rfl] at hb
    obtain rfl := Option.some.inj hb
    exact ⟨e', hx, rfl⟩
  · exact hLive (h.poolFree n (h3 ▸ hp))
  · exact absurd (h6 ▸ hi) (h.toSlotsOk.not_starting hLive)
  · rw [h2, h4]
    refine h.table.rebody hl hOk hStamp fun m l f => ?_
    by_cases hm : m = n
    · rw [hm, lives_iff, hAssoc, if_pos rfl, stored_of_insert h0 h5, if_pos rfl, hx]
      simp only [true_and, ne_eq, not_true, false_and, or_false, Option.some.injEq, exists_eq_left', BodyContent.entry.injEq]
      exact and_congr eq_comm eq_comm
    · rw [lives_of_change h0 h5 hm (by rw [hAssoc, if_neg hm])]
      simp [hm]

/-! An entry comes, and an entry moves -/

theorem EntryOk.mono {e : EntryBody} {c d : Stamp} (h : EntryOk e c) (hcd : c.toNat ≤ d.toNat) : EntryOk e d :=
  ⟨h.opened, h.orphan, h.adopted, h.holds, h.adopter, h.note, h.stampless, fun h0 => Nat.lt_of_lt_of_le (h.stamped h0) hcd⟩

theorem TableLaw.mono {live : Nat → RegionKey → EntryBody → Prop} {orphans : List Orphan} {c d : Stamp}
    (h : TableLaw live orphans c) (hcd : c.toNat ≤ d.toNat) : TableLaw live orphans d :=
  ⟨h.single, h.keys, fun hl => (h.fields hl).mono hcd, h.stamps, h.sorted, h.distinct, h.listed⟩

/-- A new entry takes the head free slot, with the stamp the counter had. -/
theorem JournalOk.create {s t : State} (h : JournalOk s) {n : Nat} {rest : List Nat} {k : RegionKey} {e : EntryBody}
    (hPool : s.journal.pool = n :: rest) (hFresh : ∀ m f, ¬s.Lives m k f) (hs : s.engine.state ≠ .initializing)
    (hMax : s.journal.stamp ≠ Config.stampMax) (hOk : EntryOk e (s.journal.stamp + 1#64)) (hState : e.state ≠ .orphan)
    (hStamp : e.stamp = s.journal.stamp)
    (h0 : t.journal.store = SlotMap.insert n (entrySlot k e) s.journal.store)
    (h1 : t.journal.index = SlotMap.insert n { key := k, summary := e.summary } s.journal.index)
    (h2 : t.journal.pool = rest) (h3 : t.journal.stamp = s.journal.stamp + 1#64)
    (h4 : t.journal.orphans = s.journal.orphans := by simp)
    (h5 : t.freeCount = s.freeCount := by simp) (h6 : t.engine.state = s.engine.state := by simp)
    (h7 : t.engine.initPos = s.engine.initPos := by simp) : JournalOk t := by
  have hn : n ∈ s.journal.pool := hPool ▸ List.mem_cons_self ..
  have hAssoc := assoc_insert h1
  have hNext : (s.journal.stamp + 1#64).toNat = s.journal.stamp.toNat + 1 := by
    have : s.journal.stamp ≠ 0xFFFFFFFFFFFFFFFF#64 := hMax
    bv_omega
  have hNodup := h.poolNodup
  rw [hPool] at hNodup
  refine ⟨h.toSlotsOk.change (h.poolRange n hn) h0 (h1 ▸ SlotMap.wf_insert n _ h.indexWf) (fun m hm => ?_) (fun b hb => ?_)
    (by rw [h2, hPool]; exact List.sublist_cons_self n rest) (fun _ hp => ?_) (fun hi => absurd (h6 ▸ hi) hs) h5 h6 h7, ?_⟩
  · rw [hAssoc, if_neg hm]
  · rw [hAssoc, if_pos rfl] at hb
    obtain rfl := Option.some.inj hb
    exact ⟨e, rfl, rfl⟩
  · exact (List.nodup_cons.1 hNodup).1 (h2 ▸ hp)
  · have hEmpty : ∀ l f, ¬s.Lives n l f := fun l f hf => by
      obtain ⟨b, hb, -, -⟩ := lives_iff.1 hf
      rw [h.poolFree n hn] at hb
      cases hb
    have hAdd := (h.table.mono (d := s.journal.stamp + 1#64) (by omega)).add (live' := t.Lives) hOk hEmpty hFresh
      (fun m l f hf hs' => Decidable.not_not.1 fun h0' => ?_) fun m l f => ?_
    · rw [if_neg hState] at hAdd
      rw [h4, h3]
      exact hAdd
    · have hlt := (h.table.fields hf).stamped (hs' ▸ h0')
      rw [← hs', hStamp] at hlt
      exact Nat.lt_irrefl _ hlt
    · by_cases hm : m = n
      · subst hm
        rw [lives_iff, hAssoc, if_pos rfl, stored_of_insert h0 h5, if_pos rfl]
        simp only [true_and, Option.some.injEq, exists_eq_left', entrySlot, BodyContent.entry.injEq, hEmpty, or_false]
        exact and_congr eq_comm eq_comm
      · rw [lives_of_change h0 h5 hm (by rw [hAssoc, if_neg hm])]
        simp [hm]

/-- An entry moves from slot `n` to the head free slot. -/
theorem JournalOk.move {s t : State} (h : JournalOk s) {n m : Nat} {rest : List Nat} {k : RegionKey} {e : EntryBody}
    (hPool : s.journal.pool = m :: rest) (hl : s.Lives n k e)
    (h0 : t.journal.store = SlotMap.insert n freeSlot (SlotMap.insert m (entrySlot k e) s.journal.store))
    (h1 : t.journal.index = SlotMap.insert m { key := k, summary := e.summary } (SlotMap.erase n s.journal.index))
    (h2 : t.journal.pool = rest) (h3 : t.journal.stamp = s.journal.stamp := by simp)
    (h4 : t.journal.orphans = s.journal.orphans := by simp)
    (h5 : t.freeCount = s.freeCount := by simp) (h6 : t.engine.state = s.engine.state := by simp)
    (h7 : t.engine.initPos = s.engine.initPos := by simp) : JournalOk t := by
  obtain ⟨a, ha, -, -⟩ := lives_iff.1 hl
  have hLive : s.assoc n ≠ none := assoc_ne_none ha
  have hm : m ∈ s.journal.pool := hPool ▸ List.mem_cons_self ..
  have hne : m ≠ n := fun he => hLive (h.poolFree n (he ▸ hm))
  have hNodup := h.poolNodup
  rw [hPool] at hNodup
  -- first the new slot, with the index of both, then the old one
  let u : State := { s with journal := { s.journal with
    store := SlotMap.insert m (entrySlot k e) s.journal.store
    index := SlotMap.insert m { key := k, summary := e.summary } s.journal.index, pool := rest } }
  have hu : SlotsOk u := by
    have hAssoc : ∀ i, u.assoc i = if i = m then some { key := k, summary := e.summary } else s.assoc i := assoc_insert rfl
    refine h.toSlotsOk.change (h.poolRange m hm) rfl (SlotMap.wf_insert m _ h.indexWf) (fun i hi => ?_) (fun b hb => ?_)
      (by rw [hPool]; exact List.sublist_cons_self m rest) (fun _ => (List.nodup_cons.1 hNodup).1)
      (fun hi => absurd hi (h.toSlotsOk.not_starting hLive)) rfl rfl rfl
    · rw [hAssoc, if_neg hi]
    · rw [hAssoc, if_pos rfl] at hb
      obtain rfl := Option.some.inj hb
      exact ⟨e, rfl, rfl⟩
  have hAssoc : ∀ i, t.assoc i = if i = m then some { key := k, summary := e.summary } else if i = n then none else s.assoc i := by
    intro i
    rw [assoc_eq, assoc_eq, h1, SlotMap.find_insert, SlotMap.find_erase h.indexWf]
  have hStored : ∀ i, t.stored i = if i = n then freeSlot else if i = m then entrySlot k e else s.stored i := by
    intro i
    have h0' : t.journal.store = SlotMap.insert n freeSlot u.journal.store := h0
    rw [stored_of_insert h0' h5, stored_of_insert (s := s) (t := u) rfl rfl]
  refine ⟨hu.change (n := n) (x := freeSlot) (h.liveRange n hLive) h0
    (h1 ▸ SlotMap.wf_insert m _ (SlotMap.wf_erase n h.indexWf)) (fun i hi => ?_) (fun b hb => ?_) (h2 ▸ .refl _) (fun hn => ?_)
    (fun hi => absurd (h6 ▸ hi) (h.toSlotsOk.not_starting hLive)) h5 h6 h7, ?_⟩
  · rw [hAssoc, assoc_insert (s := s) (t := u) rfl, if_neg hi]
  · rw [hAssoc, if_neg (Ne.symm hne), if_pos rfl] at hb
    cases hb
  · rw [hAssoc, if_neg (Ne.symm hne), if_pos rfl] at hn
    exact absurd rfl hn
  · rw [h4, h3]
    refine h.table.move (m := m) hl (fun l f hf => ?_) fun i l f => ?_
    · obtain ⟨b, hb, -, -⟩ := lives_iff.1 hf
      rw [h.poolFree m hm] at hb
      cases hb
    · rw [lives_iff, lives_iff, hAssoc, hStored]
      by_cases him : i = m
      · subst him
        rw [if_pos rfl, if_neg hne, if_pos rfl, h.poolFree i hm]
        simp only [true_and, Option.some.injEq, exists_eq_left', entrySlot, BodyContent.entry.injEq, reduceCtorEq, false_and,
          exists_false, and_false, or_false]
        exact and_congr eq_comm eq_comm
      · by_cases hin : i = n
        · simp [hin, Ne.symm hne]
        · simp [him, hin]

end Sys2Proof.Machine
end

section
/-! PROOFS. Block retirement: the block in progress and the retirement count follow from the states of the blocks; what each step of a
retirement makes of them (R152, R163, R165, R166, R169). -/

-- The proofs are checked one after the other: run at once, their threads would exceed the memory bound of the check.
set_option Elab.async false

namespace Sys2Proof.Machine

/-! The block in progress -/

theorem block_of_le (s : State) {b : Nat} (h : 16 ≤ b) : s.block b = {} := by
  rw [block_eq, Integrity.block, Vector.getElem?_eq_none h]
  rfl

theorem lt_of_inProgress {s : State} {b : Nat} (h : (s.block b).state.inProgress = true) : b < 16 := by
  refine Nat.lt_of_not_le fun hb => ?_
  rw [block_of_le s hb] at h
  cases h

theorem inProgress_of_some {s : State} {b : Nat} (h : s.inProgress = some b) : (s.block b).state.inProgress = true :=
  List.find?_some (p := fun b => (s.block b).state.inProgress) h

theorem inProgress_eq_none_iff {s : State} : s.inProgress = none ↔ ∀ b, (s.block b).state.inProgress = false := by
  unfold State.inProgress
  rw [List.find?_eq_none]
  constructor
  · intro h b
    refine Bool.eq_false_iff.2 fun hb => h b (List.mem_range.2 (lt_of_inProgress hb)) hb
  · intro h b _
    rw [h b]
    decide

theorem RetirementLaw.inProgress_eq {s : State} (h : RetirementLaw s) {b : Nat} (hb : (s.block b).state.inProgress = true) :
    s.inProgress = some b := by
  cases hp : s.inProgress with
  | none => rw [inProgress_eq_none_iff.1 hp b] at hb; cases hb
  | some c => rw [h.2.1 b c hb (inProgress_of_some hp)]

/-- The block in progress follows from which blocks are in progress. -/
theorem inProgress_congr {s t : State} (h : ∀ b, (t.block b).state.inProgress = (s.block b).state.inProgress) :
    t.inProgress = s.inProgress := by
  unfold State.inProgress
  simp only [h]

theorem retiredCount_congr {s t : State} (h : ∀ b, (t.block b).state = .retired ↔ (s.block b).state = .retired) :
    t.retiredCount = s.retiredCount := by
  unfold State.retiredCount
  simp only [h]

/-- One block becomes RETIRED. -/
theorem retiredCount_succ {s t : State} {b : Nat} (hb : b < 16) (hOld : (s.block b).state ≠ .retired)
    (hNew : (t.block b).state = .retired) (hOther : ∀ c, c ≠ b → t.block c = s.block c) :
    t.retiredCount = s.retiredCount + 1 := by
  have := countP_range_change (P := fun c => decide ((t.block c).state = .retired))
    (Q := fun c => decide ((s.block c).state = .retired)) hb fun c hc => by rw [hOther c hc]
  rw [State.retiredCount, State.retiredCount]
  simpa [hOld, hNew, -block_eq] using this

theorem not_inService_of_inProgress {st : BlockState} (h : st.inProgress = true) : st ≠ .inService := by
  rintro rfl
  cases h

theorem not_retired_of_inProgress {st : BlockState} (h : st.inProgress = true) : st ≠ .retired := by
  rintro rfl
  cases h

/-! What the block records become -/

theorem setBlockState_block (s : State) (b c : Nat) (st : BlockState) :
    (s.setBlockState b st).block c = if c = b ∧ b < 16 then { s.block b with state := st } else s.block c := by
  rw [block_eq, State.setBlockState, setIntegrity_integrity, block_setBlock]
  rfl

theorem raiseBoth_block (s : State) (k : NoticeKind) (w : Option Word) (c : Nat) : (s.raiseBoth k w).block c = s.block c := by
  simp

theorem retire_integrity (s : State) (b : Nat) :
    (s.retire b).integrity = { (s.setBlockState b .retired).integrity with reserve := 0 } :=
  (raiseBoth_frame _ _ _).2.2.2.2.2.1

theorem retire_block (s : State) (b c : Nat) :
    (s.retire b).block c = if c = b ∧ b < 16 then { s.block b with state := .retired } else s.block c := by
  rw [← setBlockState_block, block_eq, retire_integrity]
  rfl

theorem enterClosing_integrity (s : State) (b : Nat) (rest : List Nat) :
    (s.enterClosing b rest).integrity = { s.integrity.setBlock b { s.block b with state := .closing } with
      retireQueue := rest, reserve := s.liveInBlock b } := by
  have hLive : ∀ t : State, t.journal.index = s.journal.index → t.liveInBlock b = s.liveInBlock b := fun t ht => by
    rw [State.liveInBlock, ht]
    rfl
  unfold State.enterClosing
  dsimp only
  split
  · rw [setIntegrity_integrity, hLive _ (by simp)]
    simp [State.setBlockState, Integrity.setBlock, Integrity.block]
  · rw [setIntegrity_integrity, hLive _ (by simp)]
    simp [State.setBlockState, Integrity.setBlock, Integrity.block]

theorem enterClosing_block (s : State) (b c : Nat) (rest : List Nat) :
    (s.enterClosing b rest).block c = if c = b ∧ b < 16 then { s.block b with state := .closing } else s.block c := by
  have h := block_setBlock s.integrity b c { s.block b with state := .closing }
  rw [block_eq, enterClosing_integrity]
  exact h

theorem enterClosing_pool (s : State) (b : Nat) (rest : List Nat) :
    (s.enterClosing b rest).journal.pool = s.journal.pool.filter fun n => blockOf n ≠ b := by
  unfold State.enterClosing
  dsimp only
  split <;> simp

/-! The law of retirement -/

/-- The law, after records have changed that are in progress, retired and in service as before. -/
theorem RetirementLaw.of_states {s t : State} (h : RetirementLaw s) (hBucket : ∀ b, (t.block b).bucket ≤ 15)
    (hState : ∀ b, (t.block b).state = (s.block b).state ∨
      ((s.block b).state.inProgress = true ∧ (t.block b).state.inProgress = true))
    (hQueue : t.integrity.retireQueue = s.integrity.retireQueue := by simp)
    (hReserve : s.integrity.reserve = 0 → t.integrity.reserve = 0 := by simp) : RetirementLaw t := by
  have hProgress : ∀ b, (t.block b).state.inProgress = (s.block b).state.inProgress := fun b => by
    rcases hState b with hb | hb
    · rw [hb]
    · rw [hb.1, hb.2]
  have hRetired : ∀ b, (t.block b).state = .retired ↔ (s.block b).state = .retired := fun b => by
    rcases hState b with hb | hb
    · rw [hb]
    · exact iff_of_false (not_retired_of_inProgress hb.2) (not_retired_of_inProgress hb.1)
  obtain ⟨-, hOne, hNodup, hService, hCount, hIdle⟩ := h
  refine ⟨hBucket, fun b c hb hc => hOne b c (hProgress b ▸ hb) (hProgress c ▸ hc), hQueue ▸ hNodup, fun b hb => ?_, ?_, ?_⟩
  · rw [hQueue] at hb
    obtain ⟨hlt, hs⟩ := hService b hb
    refine ⟨hlt, ?_⟩
    rcases hState b with hb' | hb'
    · rw [hb', hs]
    · rw [hs] at hb'
      cases hb'.1
  · rw [State.retirementCount, inProgress_congr hProgress, retiredCount_congr hRetired, hQueue]
    exact hCount
  · rw [inProgress_congr hProgress]
    exact fun hn => hReserve (hIdle hn)

/-- A block that is in service and not queued joins the queue while the limit allows (R163). -/
theorem RetirementLaw.queue {s t : State} (h : RetirementLaw s) {b : Nat} (hlt : b < 16) (hs : (s.block b).state = .inService)
    (hb : b ∉ s.integrity.retireQueue) (hCount : s.retirementCount < 4)
    (hQueue : t.integrity.retireQueue = s.integrity.retireQueue ++ [b])
    (hBlocks : t.integrity.blocks = s.integrity.blocks := by simp) (hReserve : t.integrity.reserve = s.integrity.reserve := by simp) :
    RetirementLaw t := by
  have hBlock : ∀ c, t.block c = s.block c := fun c => by simp only [block_eq, Integrity.block, hBlocks]
  obtain ⟨hBucket, hOne, hNodup, hService, -, hIdle⟩ := h
  refine ⟨fun c => hBlock c ▸ hBucket c, fun c d => hBlock c ▸ hBlock d ▸ hOne c d, ?_, fun c hc => ?_, ?_, ?_⟩
  · rw [hQueue]
    exact List.nodup_append.2 ⟨hNodup, by simp, by rintro c hc d hd rfl; exact hb (List.mem_singleton.1 hd ▸ hc)⟩
  · rw [hQueue] at hc
    rw [hBlock]
    rcases List.mem_append.1 hc with hc | hc
    · exact hService c hc
    · rw [List.mem_singleton.1 hc]
      exact ⟨hlt, hs⟩
  · rw [State.retirementCount, inProgress_of_blocks hBlocks, retiredCount_of_blocks hBlocks, hQueue, List.length_append]
    exact hCount
  · rw [inProgress_of_blocks hBlocks, hReserve]
    exact hIdle

/-- With the block in progress RETIRED, none is in progress. -/
theorem retire_inProgress {s : State} (h : RetirementLaw s) {b : Nat} (hb : s.inProgress = some b) :
    (s.retire b).inProgress = none := by
  refine inProgress_eq_none_iff.2 fun c => ?_
  have hb' := inProgress_of_some hb
  rw [retire_block]
  split
  · rfl
  · next hc =>
    refine Bool.eq_false_iff.2 fun hc' => hc ⟨h.2.1 c b hc' hb', lt_of_inProgress hb'⟩

theorem RetirementLaw.retire {s : State} (h : RetirementLaw s) {b : Nat} (hb : s.inProgress = some b) :
    RetirementLaw (s.retire b) := by
  have hNone := retire_inProgress h hb
  have hb' := inProgress_of_some hb
  have hlt := lt_of_inProgress hb'
  have hCount : (s.retire b).retiredCount = s.retiredCount + 1 :=
    retiredCount_succ hlt (not_retired_of_inProgress hb') (by rw [retire_block, if_pos ⟨rfl, hlt⟩])
      fun c hc => by rw [retire_block, if_neg fun h => hc h.1]
  obtain ⟨hBucket, -, hNodup, hService, hLimit, -⟩ := h
  refine ⟨fun c => ?_, fun c d hc => ?_, ?_, fun c hc => ?_, ?_, fun _ => ?_⟩
  · rw [retire_block]
    split
    · exact hBucket b
    · exact hBucket c
  · rw [inProgress_eq_none_iff.1 hNone c] at hc
    cases hc
  · simpa using hNodup
  · obtain ⟨hc16, hcs⟩ := hService c (by simpa using hc)
    refine ⟨hc16, ?_⟩
    rw [retire_block, if_neg]
    · exact hcs
    · rintro ⟨rfl, -⟩
      exact not_inService_of_inProgress hb' hcs
  · rw [State.retirementCount, hb] at hLimit
    rw [State.retirementCount, hCount, hNone]
    simp at hLimit ⊢
    omega
  · rw [retire_integrity]

theorem setBlockState_progress {s : State} {b : Nat} {st : BlockState} (hb : s.inProgress = some b) (hst : st.inProgress = true)
    (c : Nat) : ((s.setBlockState b st).block c).state = (s.block c).state ∨
      ((s.block c).state.inProgress = true ∧ ((s.setBlockState b st).block c).state.inProgress = true) := by
  rw [setBlockState_block]
  split
  · next hc => exact .inr ⟨hc.1 ▸ inProgress_of_some hb, hst⟩
  · exact .inl rfl

theorem RetirementLaw.setProgress {s : State} (h : RetirementLaw s) {b : Nat} {st : BlockState} (hb : s.inProgress = some b)
    (hst : st.inProgress = true) : RetirementLaw (s.setBlockState b st) := by
  refine h.of_states (fun c => ?_) (setBlockState_progress hb hst)
  rw [setBlockState_block]
  split
  · exact h.1 b
  · exact h.1 c

theorem setProgress_inProgress {s : State} {b : Nat} {st : BlockState} (hb : s.inProgress = some b)
    (hst : st.inProgress = true) : (s.setBlockState b st).inProgress = some b := by
  refine (inProgress_congr fun c => ?_).trans hb
  rcases setBlockState_progress hb hst c with hc | hc
  · rw [hc]
  · rw [hc.1, hc.2]

/-- What the tests for the block in progress come to (R166, R169). -/
theorem testProgress_cases (s : State) :
    (s.testProgress = s ∧ (s.engine.state ≠ .ready ∨ s.inProgress = none)) ∨
    (∃ b, s.engine.state = .ready ∧ s.inProgress = some b ∧ s.integrity.reserve = 0 ∧ s.testProgress = s.retire b) ∨
    ∃ b, s.engine.state = .ready ∧ s.inProgress = some b ∧ 0 < s.integrity.reserve ∧
      s.testProgress = s.setBlockState b (if s.integrity.reserve ≤ s.pooled then .moving else .closing) := by
  unfold State.testProgress
  split
  · next hReady =>
    split
    · next b hb =>
      split
      · next h0 => exact .inr (.inl ⟨b, hReady, hb, h0, rfl⟩)
      · next h0 => exact .inr (.inr ⟨b, hReady, hb, Nat.pos_of_ne_zero h0, rfl⟩)
    · next hb => exact .inl ⟨rfl, .inr hb⟩
  · next hReady => exact .inl ⟨rfl, .inl hReady⟩

theorem movingOrClosing_inProgress (c : Prop) [Decidable c] : (if c then BlockState.moving else .closing).inProgress = true := by
  split <;> rfl

theorem RetirementLaw.testProgress {s : State} (h : RetirementLaw s) : RetirementLaw s.testProgress := by
  rcases testProgress_cases s with ⟨ht, -⟩ | ⟨b, -, hb, -, ht⟩ | ⟨b, -, hb, -, ht⟩
  · rwa [ht]
  · rw [ht]
    exact h.retire hb
  · rw [ht]
    exact h.setProgress hb (movingOrClosing_inProgress _)

/-- R166, R169: the tests leave the block in progress as the pool and the reserve require. -/
theorem settled_testProgress {s : State} (h : RetirementLaw s) : Settled s.testProgress := by
  intro hReady b hb
  rcases testProgress_cases s with ⟨ht, hNot⟩ | ⟨c, -, hc, -, ht⟩ | ⟨c, -, hc, hPos, ht⟩
  · rw [ht] at hReady hb
    rcases hNot with hNot | hNot
    · exact absurd hReady hNot
    · rw [hb] at hNot
      cases hNot
  · rw [ht, retire_inProgress h hc] at hb
    cases hb
  · rw [ht, setProgress_inProgress hc (movingOrClosing_inProgress _)] at hb
    obtain rfl := Option.some.inj hb
    have hlt := lt_of_inProgress (inProgress_of_some hc)
    rw [ht, setBlockState_block]
    simp only [pooled_eq, setBlockState_frame, hlt, and_self, if_true]
    refine ⟨hPos, ?_⟩
    by_cases hMove : s.integrity.reserve ≤ s.journal.pool.length <;> simp [hMove]

theorem enterClosing_inProgress {s : State} (h : s.inProgress = none) {b : Nat} (hlt : b < 16) (rest : List Nat) (c : Nat) :
    ((s.enterClosing b rest).block c).state.inProgress = decide (c = b) := by
  rw [enterClosing_block]
  by_cases hc : c = b
  · rw [if_pos ⟨hc, hlt⟩]
    simp [hc, BlockState.inProgress]
  · rw [if_neg fun h => hc h.1, inProgress_eq_none_iff.1 h c]
    simp [hc]

/-- R165: with no block in progress the head of the queue enters CLOSING. -/
theorem RetirementLaw.enterClosing {s : State} (h : RetirementLaw s) (hNone : s.inProgress = none) {b : Nat} {rest : List Nat}
    (hQueue : s.integrity.retireQueue = b :: rest) : RetirementLaw (s.enterClosing b rest) := by
  obtain ⟨hBucket, -, hNodup, hService, hLimit, -⟩ := h
  obtain ⟨hlt, hs⟩ := hService b (by simp [hQueue])
  have hProgress := enterClosing_inProgress hNone hlt rest
  have hIn : (s.enterClosing b rest).integrity.retireQueue = rest := by rw [enterClosing_integrity]
  have hSome : (s.enterClosing b rest).inProgress = some b := by
    cases hp : (s.enterClosing b rest).inProgress with
    | none =>
      have := inProgress_eq_none_iff.1 hp b
      rw [hProgress] at this
      simp at this
    | some c =>
      have := inProgress_of_some hp
      rw [hProgress] at this
      rw [of_decide_eq_true this]
  rw [hQueue] at hNodup
  refine ⟨fun c => ?_, fun c d hc hd => ?_, by rw [hIn]; exact (List.nodup_cons.1 hNodup).2, fun c hc => ?_, ?_, fun hn => ?_⟩
  · rw [enterClosing_block]
    split
    · exact hBucket b
    · exact hBucket c
  · rw [hProgress] at hc hd
    rw [of_decide_eq_true hc, of_decide_eq_true hd]
  · rw [hIn] at hc
    obtain ⟨hc16, hcs⟩ := hService c (by simp [hQueue, hc])
    refine ⟨hc16, ?_⟩
    rw [enterClosing_block, if_neg]
    · exact hcs
    · rintro ⟨rfl, -⟩
      exact (List.nodup_cons.1 hNodup).1 hc
  · have hRetired : (s.enterClosing b rest).retiredCount = s.retiredCount := retiredCount_congr fun c => by
      rw [enterClosing_block]
      split
      · next hc => simp [hc.1, hs, -block_eq]
      · rfl
    rw [State.retirementCount, hNone, hQueue] at hLimit
    rw [State.retirementCount, hRetired, hSome, hIn]
    simp at hLimit ⊢
    omega
  · rw [hSome] at hn
    cases hn

theorem closingDue_iff {s : State} :
    s.closingDue = true ↔ s.engine.state = .ready ∧ s.inProgress = none ∧ s.integrity.retireQueue ≠ [] := by
  simp [State.closingDue, and_assoc]

/-- What holds after the tests, and is kept by an entry to CLOSING and the tests, holds after all that `settleWithin` does. -/
theorem settleWithin_induction {P Q : State → Prop} (hTest : ∀ s, P s → P s.testProgress ∧ Q s.testProgress)
    (hEnter : ∀ s b rest, P s → s.engine.state = .ready → s.inProgress = none → s.integrity.retireQueue = b :: rest →
      P (s.enterClosing b rest)) (fuel : Nat) {s : State} (h : P s) : P (s.settleWithin fuel) ∧ Q (s.settleWithin fuel) := by
  induction fuel generalizing s with
  | zero => exact hTest s h
  | succ fuel ih =>
    obtain ⟨hp, hq⟩ := hTest s h
    unfold State.settleWithin
    dsimp only
    split
    · next hDue =>
      obtain ⟨hReady, hNone, -⟩ := closingDue_iff.1 hDue
      split
      · next b rest hQueue => exact ih (hEnter _ b rest hp hReady hNone hQueue)
      · exact ⟨hp, hq⟩
    · exact ⟨hp, hq⟩

theorem settle_law {s : State} (h : RetirementLaw s) : RetirementLaw s.settle ∧ Settled s.settle :=
  settleWithin_induction (fun _ h => ⟨h.testProgress, settled_testProgress h⟩)
    (fun _ _ _ h _ hNone hQueue => h.enterClosing hNone hQueue) _ h

theorem RetirementLaw.settle {s : State} (h : RetirementLaw s) : RetirementLaw s.settle := (settle_law h).1

theorem settled_settle {s : State} (h : RetirementLaw s) : Settled s.settle := (settle_law h).2

theorem RetirementLaw.enterIfDue {s : State} (h : RetirementLaw s) : RetirementLaw s.enterIfDue := by
  unfold State.enterIfDue
  split
  · exact h.settle
  · exact h

end Sys2Proof.Machine
end

section
/-! PROOFS. The laws that tie blocks to slots (R14, R16, R165, R166, R169): pooled slots lie in blocks in service, live ones in blocks
that are not RETIRED, and the reserve counts the live slots of the block in progress. -/

-- The proofs are checked one after the other: run at once, their threads would exceed the memory bound of the check.
set_option Elab.async false

namespace Sys2Proof.Machine

theorem liveInBlock_change {s t : State} (hs : SlotsOk s) (ht : SlotsOk t) {n : Nat} (hn : n < 1024)
    (hOther : ∀ m, m ≠ n → t.assoc m = s.assoc m) (b : Nat) :
    t.liveInBlock b + ((s.assoc n).isSome && decide (blockOf n = b)).toNat =
      s.liveInBlock b + ((t.assoc n).isSome && decide (blockOf n = b)).toNat := by
  rw [liveInBlock_eq hs, liveInBlock_eq ht]
  exact countP_range_change (P := fun m => (t.assoc m).isSome && decide (blockOf m = b))
    (Q := fun m => (s.assoc m).isSome && decide (blockOf m = b)) hn fun m hm => by rw [hOther m hm]

theorem assoc_none_of_liveInBlock {s : State} (h : SlotsOk s) {b : Nat} (hb : s.liveInBlock b = 0) {n : Nat} (hn : blockOf n = b) :
    s.assoc n = none := by
  refine Decidable.not_not.1 fun hne => ?_
  rw [liveInBlock_eq h, List.countP_eq_zero] at hb
  refine hb n (List.mem_range.2 (h.liveRange n hne)) ?_
  simp [Option.isSome_iff_ne_none, hn, -assoc_eq, hne]

theorem SlotsOk.erase {s t : State} (h : SlotsOk s) {n : Nat} (hn : s.assoc n ≠ none)
    (h0 : t.journal.store = SlotMap.insert n freeSlot s.journal.store)
    (h1 : t.journal.index = SlotMap.erase n s.journal.index)
    (h3 : t.journal.pool = s.journal.pool := by simp) (h5 : t.freeCount = s.freeCount := by simp)
    (h6 : t.engine.state = s.engine.state := by simp) (h7 : t.engine.initPos = s.engine.initPos := by simp) : SlotsOk t := by
  have hAssoc := assoc_erase h.indexWf h1
  have hNone : t.assoc n = none := by rw [hAssoc, if_pos rfl]
  refine h.change (h.liveRange n hn) h0 (h1 ▸ SlotMap.wf_erase n h.indexWf) (fun m hm => by rw [hAssoc, if_neg hm])
    (fun b hb => ?_) (h3 ▸ .refl _) (fun hne => absurd hNone hne) (fun hi => absurd (h6 ▸ hi) (h.not_starting hn)) h5 h6 h7
  rw [hNone] at hb
  cases hb

/-- Slots leave the pool. -/
theorem BlocksOk.withdraw {s t : State} (h : BlocksOk s) (hPool : t.journal.pool.Sublist s.journal.pool)
    (h1 : t.integrity.blocks = s.integrity.blocks := by simp)
    (h2 : t.integrity.retireQueue = s.integrity.retireQueue := by simp)
    (h3 : t.integrity.reserve = s.integrity.reserve := by simp)
    (h5 : t.journal.index = s.journal.index := by simp) (h7 : t.engine.state = s.engine.state := by simp) : BlocksOk t := by
  have hOk : BlocksOk { s with journal := { s.journal with pool := t.journal.pool } } :=
    ⟨h.retirement, fun n hn => h.poolHome n (hPool.subset hn), h.liveHome, h.starting, h.reserve⟩
  exact hOk.of_eq h1 h2 h3 rfl (by rw [h5]) (fun n => by rw [assoc_eq, h5]; rfl) h7

/-- An entry leaves its slot; the reserve falls if its block is in progress. -/
theorem BlocksOk.erase {s t : State} (h : BlocksOk s) (hs : SlotsOk s) (ht : SlotsOk t) {n : Nat} (hn : s.assoc n ≠ none)
    (h1 : t.journal.index = SlotMap.erase n s.journal.index)
    (h2 : t.integrity.reserve =
      if (s.block (blockOf n)).state.inProgress = true then s.integrity.reserve - 1 else s.integrity.reserve)
    (h3 : t.journal.pool = s.journal.pool := by simp) (h4 : t.integrity.blocks = s.integrity.blocks := by simp)
    (h5 : t.integrity.retireQueue = s.integrity.retireQueue := by simp) (h6 : t.engine.state = s.engine.state := by simp) :
    BlocksOk t := by
  have hBlock : ∀ b, t.block b = s.block b := fun b => by simp only [block_eq, Integrity.block, h4]
  have hAssoc := assoc_erase hs.indexWf h1
  refine ⟨h.retirement.of_states (fun b => hBlock b ▸ h.retirement.1 b) (fun b => .inl (by rw [hBlock])) h5 fun h0 => ?_,
    fun m hm => hBlock _ ▸ h.poolHome m (h3 ▸ hm), fun m hm => ?_, fun hi => ?_, fun b hb => ?_⟩
  · rw [h2, h0]
    split <;> rfl
  · rw [hBlock]
    rw [hAssoc] at hm
    split at hm
    · exact absurd rfl hm
    · exact h.liveHome m hm
  · rw [inProgress_of_blocks h4]
    exact h.starting (h6 ▸ hi)
  · rw [inProgress_of_blocks h4] at hb
    have hChange := liveInBlock_change hs ht (hs.liveRange n hn) (fun m hm => by rw [hAssoc, if_neg hm]) b
    rw [hAssoc, if_pos rfl, Option.isSome_iff_ne_none.2 hn] at hChange
    simp only [Bool.true_and, Option.isSome_none, Bool.false_and, Bool.toNat_false, Nat.add_zero] at hChange
    rw [h2]
    by_cases hHome : blockOf n = b
    · rw [hHome, if_pos (inProgress_of_some hb), h.reserve b hb]
      simp only [hHome, decide_true, Bool.toNat_true] at hChange
      omega
    · have hNot : (s.block (blockOf n)).state.inProgress ≠ true := fun hp => hHome (h.retirement.2.1 _ b hp (inProgress_of_some hb))
      rw [if_neg hNot, h.reserve b hb]
      simp only [hHome, decide_false, Bool.toNat_false] at hChange
      omega

/-- A pooled slot becomes live. -/
theorem BlocksOk.create {s t : State} (h : BlocksOk s) (hs : SlotsOk s) (ht : SlotsOk t) {n : Nat} {a : Association}
    (hn : n ∈ s.journal.pool) (h1 : t.journal.index = SlotMap.insert n a s.journal.index)
    (h2 : t.journal.pool.Sublist s.journal.pool) (h3 : t.integrity.blocks = s.integrity.blocks := by simp)
    (h4 : t.integrity.retireQueue = s.integrity.retireQueue := by simp)
    (h5 : t.integrity.reserve = s.integrity.reserve := by simp) (h6 : t.engine.state = s.engine.state := by simp) :
    BlocksOk t := by
  have hBlock : ∀ b, t.block b = s.block b := fun b => by simp only [block_eq, Integrity.block, h3]
  have hAssoc := assoc_insert h1
  have hHome := h.poolHome n hn
  refine ⟨h.retirement.of_eq h3 h4 h5, fun m hm => hBlock _ ▸ h.poolHome m (h2.subset hm), fun m hm => ?_, fun hi => ?_,
    fun b hb => ?_⟩
  · rw [hBlock]
    by_cases hmn : m = n
    · rw [hmn, hHome]
      nofun
    · rw [hAssoc, if_neg hmn] at hm
      exact h.liveHome m hm
  · rw [inProgress_of_blocks h3]
    exact h.starting (h6 ▸ hi)
  · rw [inProgress_of_blocks h3] at hb
    have hne : blockOf n ≠ b := fun he => not_inService_of_inProgress (inProgress_of_some hb) (he ▸ hHome)
    have hChange := liveInBlock_change hs ht (hs.poolRange n hn) (fun m hm => by rw [hAssoc, if_neg hm]) b
    simp only [hne, decide_false, Bool.and_false, Bool.toNat_false, Nat.add_zero] at hChange
    rw [h5, hChange, h.reserve b hb]

/-- A slot that is not live joins the pool. -/
theorem JournalOk.pool {s t : State} (h : JournalOk s) {n : Nat} (hn : n < 1024) (hNot : s.assoc n = none) (hFresh : n ∉ s.journal.pool)
    (hStart : s.engine.state = .initializing → n < s.engine.initPos) (hPool : t.journal.pool = s.journal.pool ++ [n])
    (h0 : t.journal.store = s.journal.store := by simp)
    (h1 : t.journal.index = s.journal.index := by simp)
    (h3 : t.journal.orphans = s.journal.orphans := by simp) (h4 : t.journal.stamp = s.journal.stamp := by simp)
    (h5 : t.freeCount = s.freeCount := by simp) (h6 : t.engine.state = s.engine.state := by simp)
    (h7 : t.engine.initPos = s.engine.initPos := by simp) : JournalOk t := by
  have hMem : ∀ m ∈ t.journal.pool, m ∈ s.journal.pool ∨ m = n := fun m hm => by
    rw [hPool] at hm
    exact (List.mem_append.1 hm).imp_right List.mem_singleton.1
  have hOk : JournalOk { s with journal := { s.journal with pool := t.journal.pool } } := by
    refine ⟨⟨h.storeWf, h.indexWf, h.storeRange, h.liveRange, fun m hm => ?_, ?_, fun m hm => ?_, h.linked,
      fun hi => ⟨(h.starting hi).1, fun m hm => ?_⟩⟩, h.table⟩
    · rcases hMem m hm with hm | rfl
      · exact h.poolRange m hm
      · exact hn
    · show t.journal.pool.Nodup
      rw [hPool]
      exact List.nodup_append.2 ⟨h.poolNodup, by simp, by rintro m hm k hk rfl; exact hFresh (List.mem_singleton.1 hk ▸ hm)⟩
    · rcases hMem m hm with hm | rfl
      · exact h.poolFree m hm
      · exact hNot
    · rcases hMem m hm with hm | rfl
      · exact (h.starting hi).2 m hm
      · exact hStart hi
  exact hOk.of_eq h0 h1 rfl h3 h4 h5 h6 h7

theorem BlocksOk.pool {s t : State} (h : BlocksOk s) {n : Nat} (hn : (s.block (blockOf n)).state = .inService)
    (hPool : t.journal.pool = s.journal.pool ++ [n])
    (h1 : t.integrity.blocks = s.integrity.blocks := by simp)
    (h2 : t.integrity.retireQueue = s.integrity.retireQueue := by simp)
    (h3 : t.integrity.reserve = s.integrity.reserve := by simp)
    (h5 : t.journal.index = s.journal.index := by simp) (h7 : t.engine.state = s.engine.state := by simp) : BlocksOk t := by
  have hOk : BlocksOk { s with journal := { s.journal with pool := t.journal.pool } } := by
    refine ⟨h.retirement, fun m hm => ?_, h.liveHome, h.starting, h.reserve⟩
    have hm' : m ∈ t.journal.pool := hm
    rw [hPool] at hm'
    rcases List.mem_append.1 hm' with hm' | hm'
    · exact h.poolHome m hm'
    · exact List.mem_singleton.1 hm' ▸ hn
  exact hOk.of_eq h1 h2 h3 rfl (by rw [h5]) (fun n => by rw [assoc_eq, h5]; rfl) h7

/-- Block records change that are in progress, retired and in service as before. -/
theorem BlocksOk.of_states {s t : State} (h : BlocksOk s) (hBucket : ∀ b, (t.block b).bucket ≤ 15)
    (hState : ∀ b, (t.block b).state = (s.block b).state ∨
      ((s.block b).state.inProgress = true ∧ (t.block b).state.inProgress = true))
    (h2 : t.integrity.retireQueue = s.integrity.retireQueue := by simp)
    (h3 : t.integrity.reserve = s.integrity.reserve := by simp)
    (h4 : t.journal.pool = s.journal.pool := by simp)
    (h5 : t.journal.index = s.journal.index := by simp) (h7 : t.engine.state = s.engine.state := by simp) : BlocksOk t := by
  have hProgress : t.inProgress = s.inProgress := inProgress_congr fun b => by
    rcases hState b with hb | hb
    · rw [hb]
    · rw [hb.1, hb.2]
  refine ⟨h.retirement.of_states hBucket hState h2 fun h0 => h3.trans h0, fun n hn => ?_, fun n hn => ?_, fun hi => ?_, fun b hb => ?_⟩
  · have hHome := h.poolHome n (h4 ▸ hn)
    rcases hState (blockOf n) with hb | hb
    · rw [hb, hHome]
    · exact absurd hHome (not_inService_of_inProgress hb.1)
  · rw [assoc_eq, h5, ← assoc_eq] at hn
    rcases hState (blockOf n) with hb | hb
    · rw [hb]
      exact h.liveHome n hn
    · exact not_retired_of_inProgress hb.2
  · rw [hProgress]
    exact h.starting (h7 ▸ hi)
  · rw [hProgress] at hb
    rw [h3, h.reserve b hb, State.liveInBlock, State.liveInBlock, h5]

theorem BlocksOk.queue {s t : State} (h : BlocksOk s) {b : Nat} (hlt : b < 16) (hs : (s.block b).state = .inService)
    (hb : b ∉ s.integrity.retireQueue) (hCount : s.retirementCount < 4)
    (hQueue : t.integrity.retireQueue = s.integrity.retireQueue ++ [b])
    (h1 : t.integrity.blocks = s.integrity.blocks := by simp) (h3 : t.integrity.reserve = s.integrity.reserve := by simp)
    (h4 : t.journal.pool = s.journal.pool := by simp)
    (h5 : t.journal.index = s.journal.index := by simp) (h7 : t.engine.state = s.engine.state := by simp) : BlocksOk t := by
  have hOk : BlocksOk { s with integrity := { s.integrity with retireQueue := t.integrity.retireQueue } } :=
    ⟨h.retirement.queue hlt hs hb hCount hQueue rfl rfl, h.poolHome, h.liveHome, h.starting, h.reserve⟩
  exact hOk.of_eq h1 rfl h3 h4 (by rw [h5]) (fun n => by rw [assoc_eq, h5]; rfl) h7

/-! The steps of a retirement -/

theorem BlocksOk.retire {s : State} (h : BlocksOk s) (hs : SlotsOk s) {b : Nat} (hb : s.inProgress = some b)
    (h0 : s.integrity.reserve = 0) : BlocksOk (s.retire b) := by
  have hNone := retire_inProgress h.retirement hb
  refine ⟨h.retirement.retire hb, fun n hn => ?_, fun n hn => ?_, fun _ => hNone, fun c hc => ?_⟩
  · have hHome := h.poolHome n (by simpa using hn)
    rw [retire_block, if_neg]
    · exact hHome
    · rintro ⟨hnb, -⟩
      exact not_inService_of_inProgress (inProgress_of_some hb) (hnb ▸ hHome)
  · have hn' : s.assoc n ≠ none := by simpa using hn
    rw [retire_block, if_neg]
    · exact h.liveHome n hn'
    · rintro ⟨hnb, -⟩
      exact hn' (assoc_none_of_liveInBlock hs ((h.reserve b hb).symm.trans h0) hnb)
  · rw [hNone] at hc
    cases hc

theorem BlocksOk.testProgress {s : State} (h : BlocksOk s) (hs : SlotsOk s) : BlocksOk s.testProgress := by
  rcases testProgress_cases s with ⟨ht, -⟩ | ⟨b, -, hb, h0, ht⟩ | ⟨b, -, hb, -, ht⟩
  · rwa [ht]
  · rw [ht]
    exact h.retire hs hb h0
  · rw [ht]
    refine h.of_states (fun c => ?_) (setBlockState_progress hb (movingOrClosing_inProgress _))
    exact (h.retirement.setProgress hb (movingOrClosing_inProgress _)).1 c

theorem BlocksOk.enterClosing {s : State} (h : BlocksOk s) (hReady : s.engine.state = .ready) (hNone : s.inProgress = none)
    {b : Nat} {rest : List Nat} (hQueue : s.integrity.retireQueue = b :: rest) : BlocksOk (s.enterClosing b rest) := by
  obtain ⟨hlt, -⟩ := h.retirement.2.2.2.1 b (by simp [hQueue])
  refine ⟨h.retirement.enterClosing hNone hQueue, fun n hn => ?_, fun n hn => ?_, fun hi => ?_, fun c hc => ?_⟩
  · rw [enterClosing_pool, List.mem_filter] at hn
    rw [enterClosing_block, if_neg fun hnb => of_decide_eq_true hn.2 hnb.1]
    exact h.poolHome n hn.1
  · have hn' : s.assoc n ≠ none := by simpa using hn
    rw [enterClosing_block]
    split
    · nofun
    · exact h.liveHome n hn'
  · rw [(enterClosing_frame s b rest).2.2.2.2.2.2.2.2.1, hReady] at hi
    cases hi
  · have hcb := inProgress_of_some hc
    rw [enterClosing_inProgress hNone hlt] at hcb
    rw [of_decide_eq_true hcb, enterClosing_integrity, State.liveInBlock, State.liveInBlock, (enterClosing_frame s b rest).2.2.2.1]

end Sys2Proof.Machine
end

section
/-! PROOFS. What the shared operations keep (`Kept`): notices, session ends, retirement. -/

-- The proofs are checked one after the other: run at once, their threads would exceed the memory bound of the check.
set_option Elab.async false

namespace Sys2Proof.Machine

/-- `Kept`, where `Inv` is kept under an assumption `I`, which the operation takes from an earlier state of the event. -/
structure KeptIf (I : Prop) (s t : State) : Prop where
  outbound : OutboundLaw s → OutboundLaw t
  inv : I → Inv s → Inv t
  target : t.service.target = s.service.target
  waiting : t.service.inProgress = s.service.inProgress
  retiring : ∀ b, (s.block b).state ≠ .inService → (t.block b).state ≠ .inService

theorem KeptIf.kept {s t : State} (h : KeptIf (Inv s) s t) : Kept s t :=
  ⟨h.outbound, fun hi => h.inv hi hi, h.target, h.waiting, h.retiring⟩

theorem Kept.keptIf {I : Prop} {s t : State} (h : Kept s t) : KeptIf I s t :=
  ⟨h.outbound, fun _ => h.inv, h.target, h.waiting, h.retiring⟩

theorem KeptIf.trans {I : Prop} {s t u : State} (h : KeptIf I s t) (h' : KeptIf I t u) : KeptIf I s u :=
  ⟨h'.outbound ∘ h.outbound, fun hI hi => h'.inv hI (h.inv hI hi), h'.target.trans h.target, h'.waiting.trans h.waiting,
    fun b hb => h'.retiring b (h.retiring b hb)⟩

theorem Kept.thenIf {s t u : State} (h : Kept s t) (h' : KeptIf (Inv s) t u) : Kept s u := (h.keptIf.trans h').kept

/-- What changes slots, blocks and the arbiter's request. -/
theorem KeptIf.of_slots {I : Prop} {s t : State} (ho : OutboundLaw s → OutboundLaw t) (hEngine : EngineLaw s → EngineLaw t)
    (hj : I → Inv s → JournalOk t) (hb : I → Inv s → BlocksOk t)
    (hRetiring : ∀ b, (s.block b).state ≠ .inService → (t.block b).state ≠ .inService)
    (h1 : t.sessions = s.sessions := by simp) (h2 : t.faults = s.faults := by simp) (h3 : t.service = s.service := by simp)
    (h4 : t.sweeper = s.sweeper := by simp) (h5 : t.integrity.scrubPosition = s.integrity.scrubPosition := by simp)
    (h6 : t.engine.state = s.engine.state := by simp) : KeptIf I s t := by
  refine ⟨ho, fun hI h => ⟨?_, ?_, ?_, hEngine h.engine, h.positions.of_eq h4 h5, hj hI h, hb hI h⟩, by rw [h3], by rw [h3], hRetiring⟩
  · rw [h1, h6]
    exact h.ports
  · rw [h2, h3]
    exact h.faults
  · unfold SettingsLaw
    rw [settings_eq, h3]
    exact h.settings

theorem Kept.of_slots {s t : State} (ho : OutboundLaw s → OutboundLaw t) (hEngine : EngineLaw s → EngineLaw t)
    (hj : Inv s → JournalOk t) (hb : Inv s → BlocksOk t)
    (hRetiring : ∀ b, (s.block b).state ≠ .inService → (t.block b).state ≠ .inService)
    (h1 : t.sessions = s.sessions := by simp) (h2 : t.faults = s.faults := by simp) (h3 : t.service = s.service := by simp)
    (h4 : t.sweeper = s.sweeper := by simp) (h5 : t.integrity.scrubPosition = s.integrity.scrubPosition := by simp)
    (h6 : t.engine.state = s.engine.state := by simp) : Kept s t :=
  (KeptIf.of_slots ho hEngine (fun _ => hj) (fun _ => hb) hRetiring h1 h2 h3 h4 h5 h6).kept

/-- Block records unchanged, no block has come back into service. -/
theorem retiring_of_blocks {s t : State} (h : t.integrity.blocks = s.integrity.blocks := by simp) (b : Nat)
    (hb : (s.block b).state ≠ .inService) : (t.block b).state ≠ .inService := by
  rwa [block_eq, Integrity.block, h]

/-! Frames and notices -/

theorem kept_enqueue (s : State) (p : Port) (f : OutFrame) : Kept s (s.enqueue p f) := by
  unfold State.enqueue
  split
  · next h =>
    refine .setLink fun hl => ?_
    simp only [State.accepts, Bool.and_eq_true, decide_eq_true_eq] at h
    obtain ⟨hUp, hLen⟩ := h
    refine ⟨?_, fun hDown => absurd hUp hDown, hl.2.2⟩
    rw [List.length_append]
    exact hLen
  · exact .refl s

theorem kept_sendNotice (s : State) (p : Port) (k : NoticeKind) (w : Option Word) : Kept s (s.sendNotice p k w) := by
  unfold State.sendNotice
  split
  · exact (kept_enqueue s p _).trans (.of_told (.of_links rfl))
  · exact .refl s

theorem kept_setFlag (s : State) (p : Port) (k : NoticeKind) (v : Option (Option Word)) : Kept s (s.setFlag p k v) := .setNotices s _

theorem kept_takeRaise (s : State) (r : Raise) : Kept s (s.takeRaise r) := by
  unfold State.takeRaise
  split
  · split
    · exact .refl s
    · exact (kept_setFlag ..).trans (kept_sendNotice ..)
  · exact kept_sendNotice ..

theorem kept_raise (s : State) (p : Port) (k : NoticeKind) (w : Option Word) : Kept s (s.raise p k w) := by
  unfold State.raise
  split
  · split
    · exact .setNotices s _
    · exact .refl s
  · exact kept_takeRaise ..

theorem kept_raiseBoth (s : State) (k : NoticeKind) (w : Option Word) : Kept s (s.raiseBoth k w) :=
  (kept_raise s .a k w).trans (kept_raise _ .b k w)

theorem kept_releaseNotices (s : State) : Kept s s.releaseNotices :=
  (Kept.setNotices s _).trans (.foldl kept_takeRaise _ _)

theorem kept_judgeRepeat (s : State) : Kept s s.judgeRepeat := .of_told (.of_links (by simp))

theorem kept_finish (s : State) : Kept s s.finish := (kept_releaseNotices s).trans (kept_judgeRepeat _)

/-! Session ends -/

theorem kept_markSweep (s : State) : Kept s s.markSweep := .setSweeper (fun h => ⟨h, h⟩) fun _ => rfl

theorem Session.Ok.closeTo {x : Session} {st : SessionState} {g : EngineState} (hst : st.isOpen = false) : (x.closeTo st).Ok g := by
  refine ⟨fun _ => ⟨rfl, rfl⟩, hst.symm, ⟨nofun, fun h => ?_⟩, fun h => ?_, Nat.zero_le _, fun _ => hst, decide_eq_true_iff⟩
  · have hd : st = .draining := h
    rw [hd] at hst
    cases hst
  · rw [show (x.closeTo st).state = st from rfl, hst] at h
    cases h

theorem kept_closeTo (s : State) (p : Port) {st : SessionState} (h : st.isOpen = false) :
    Kept s (s.setSession p ((s.session p).closeTo st)) := .setSession fun _ _ => .closeTo h

theorem kept_endSession (s : State) (p : Port) {st : SessionState} (h : st.isOpen = false) : Kept s (s.endSession p st) :=
  (kept_closeTo s p h).trans (kept_markSweep _)

theorem kept_leaveTo (s : State) (p : Port) {st : SessionState} (h : st.isOpen = false) : Kept s (s.leaveTo p st) := by
  unfold State.leaveTo
  split
  · exact kept_endSession s p h
  · exact kept_closeTo s p h

theorem kept_detachGracefully (s : State) (p : Port) : Kept s (s.detachGracefully p) :=
  (kept_closeTo s p rfl).trans (kept_raise ..)

theorem kept_testDrain (s : State) (p : Port) : Kept s (s.testDrain p) := by
  unfold State.testDrain
  split
  · exact kept_detachGracefully s p
  · exact .refl s

/-- The counts of a session change; only an open session has counts (R48, R49). -/
theorem kept_setCounts (s : State) (p : Port) {h a : Nat}
    (hc : Inv s → (s.session p).state.isOpen = false → h = 0 ∧ a = 0) (hh : Inv s → h ≤ 1024) :
    Kept s (s.setSession p { s.session p with holdings := h, adoptions := a }) := by
  refine ⟨.of_links rfl, fun hi => ⟨fun q => ?_, hi.faults, hi.settings, hi.engine, hi.positions, hi.journal.of_eq, hi.blocks.of_eq⟩,
    rfl, rfl, fun _ hb => hb⟩
  have hp := hi.ports p
  rw [setSession_sessions, PerPort.get_set]
  split
  · exact ⟨hc hi, hp.lapse, hp.drain, hp.epoch, hh hi, hp.starting, hp.fence⟩
  · exact hi.ports q

theorem kept_lowerHoldings (s : State) (p : Port) : Kept s (s.lowerHoldings p) := by
  refine .trans (kept_setCounts s p (h := (s.session p).holdings - 1) (a := (s.session p).adoptions) (fun hi hc => ?_) fun hi => ?_)
    (kept_testDrain _ p)
  · obtain ⟨h1, h2⟩ := (hi.ports p).closed hc
    rw [session_eq, h1, h2]
    exact ⟨rfl, rfl⟩
  · exact Nat.le_trans (Nat.sub_le ..) (hi.ports p).holdings

theorem kept_lowerAdoptions (s : State) (p : Port) : Kept s (s.lowerAdoptions p) := by
  refine .trans (kept_setCounts s p (h := (s.session p).holdings) (a := (s.session p).adoptions - 1) (fun hi hc => ?_) fun hi => ?_)
    (kept_testDrain _ p)
  · obtain ⟨h1, h2⟩ := (hi.ports p).closed hc
    rw [session_eq, h1, h2]
    exact ⟨rfl, rfl⟩
  · exact (hi.ports p).holdings

theorem kept_raiseHoldings {s : State} {p : Port} (ho : s.isOpen p = true) (hl : Inv s → (s.session p).holdings < 1024) :
    Kept s (s.raiseHoldings p) := by
  refine kept_setCounts s p (h := (s.session p).holdings + 1) (a := (s.session p).adoptions) (fun _ hc => ?_) hl
  rw [State.isOpen, hc] at ho
  cases ho

theorem kept_raiseAdoptions {s : State} {p : Port} (ho : s.isOpen p = true) : Kept s (s.raiseAdoptions p) := by
  refine kept_setCounts s p (h := (s.session p).holdings) (a := (s.session p).adoptions + 1) (fun _ hc => ?_)
    fun hi => (hi.ports p).holdings
  rw [State.isOpen, hc] at ho
  cases ho

theorem kept_lowerHolders (s : State) (x : HolderSummary) : Kept s (s.lowerHolders x) := by
  have hA : Kept s (if s.summaryLive .a x.holdA then s.lowerHoldings .a else s) := by
    split
    · exact kept_lowerHoldings s .a
    · exact .refl s
  have hB : ∀ t : State, Kept t (if s.summaryLive .b x.holdB then t.lowerHoldings .b else t) := fun t => by
    split
    · exact kept_lowerHoldings t .b
    · exact .refl t
  have hAB := hA.trans (hB _)
  unfold State.lowerHolders
  dsimp only
  split
  · split
    · exact hAB.trans (kept_lowerAdoptions ..)
    · exact hAB
  · exact hAB

theorem kept_fencePort (s : State) (p : Port) (cause : Word) (kind : FaultKind) : Kept s (s.fencePort p cause kind) :=
  ((kept_leaveTo s p rfl).trans (kept_raise ..)).trans (kept_capture ..)

/-! The pool's tests -/

theorem kept_lowWaterTest (s : State) : Kept s s.lowWaterTest := by
  unfold State.lowWaterTest
  split
  · exact (Kept.setArmed s false).trans (kept_raiseBoth ..)
  · exact .refl s

theorem kept_rearmTest (s : State) : Kept s s.rearmTest := by
  unfold State.rearmTest
  split
  · exact .setArmed s true
  · exact .refl s

/-- Slots leave the pool. -/
theorem kept_withdraw (s : State) {l : List Nat} (h : l.Sublist s.journal.pool) :
    Kept s (s.setJournal { s.journal with pool := l }) :=
  .of_slots (.of_links rfl) (fun h => h.of_eq) (fun hi => hi.journal.withdraw h) (fun hi => hi.blocks.withdraw h) retiring_of_blocks

theorem kept_poolSlot {s : State} {n : Nat} (hn : Inv s → n < 1024) (hNot : Inv s → s.assoc n = none)
    (hFresh : Inv s → n ∉ s.journal.pool) (hStart : Inv s → s.engine.state = .initializing → n < s.engine.initPos)
    (hHome : Inv s → (s.block (blockOf n)).state = .inService) : Kept s (s.poolSlot n) :=
  .trans (.of_slots (t := s.setJournal { s.journal with pool := s.journal.pool ++ [n] }) (.of_links rfl) (fun h => h.of_eq)
    (fun hi => hi.journal.pool (hn hi) (hNot hi) (hFresh hi) (hStart hi) rfl)
    (fun hi => hi.blocks.pool (hHome hi) rfl) retiring_of_blocks) (kept_rearmTest _)

/-! Retirement -/

theorem outbound_retire (s : State) (b : Nat) (h : OutboundLaw s) : OutboundLaw (s.retire b) := by
  unfold State.retire
  exact (kept_raiseBoth _ _ _).outbound (.of_links (by simp) h)

theorem kept_testProgress (s : State) : Kept s s.testProgress := by
  refine .of_slots ?_ (fun h => h.of_eq) (fun hi => hi.journal.of_eq) (fun hi => hi.blocks.testProgress hi.journal.toSlotsOk)
    fun b hb => ?_
  · rcases testProgress_cases s with ⟨ht, -⟩ | ⟨b, -, -, -, ht⟩ | ⟨b, -, -, -, ht⟩
    · rw [ht]
      exact id
    · rw [ht]
      exact outbound_retire s b
    · rw [ht]
      exact .of_links (by simp)
  · rcases testProgress_cases s with ⟨ht, -⟩ | ⟨c, -, -, -, ht⟩ | ⟨c, -, hc, -, ht⟩
    · rwa [ht]
    · rw [ht, retire_block]
      split
      · nofun
      · exact hb
    · rw [ht]
      rcases setBlockState_progress hc (movingOrClosing_inProgress (s.integrity.reserve ≤ s.pooled)) b with h | h
      · rwa [h]
      · exact not_inService_of_inProgress h.2

theorem outbound_enterClosing (s : State) (b : Nat) (rest : List Nat) (h : OutboundLaw s) : OutboundLaw (s.enterClosing b rest) := by
  unfold State.enterClosing
  dsimp only
  split
  · exact .of_links rfl ((kept_lowWaterTest _).outbound (.of_links rfl h))
  · exact .of_links rfl h

theorem kept_enterClosing {s : State} {b : Nat} {rest : List Nat} (hReady : s.engine.state = .ready) (hNone : s.inProgress = none)
    (hQueue : s.integrity.retireQueue = b :: rest) : Kept s (s.enterClosing b rest) := by
  refine .of_slots (outbound_enterClosing s b rest) (fun h => h.of_eq) (fun hi => hi.journal.withdraw ?_)
    (fun hi => hi.blocks.enterClosing hReady hNone hQueue) fun c hc => ?_
  · rw [enterClosing_pool]
    exact List.filter_sublist
  · rw [enterClosing_block]
    split
    · nofun
    · exact hc

theorem kept_settle (s : State) : Kept s s.settle :=
  (settleWithin_induction (P := Kept s) (Q := fun _ => True) (fun t h => ⟨h.trans (kept_testProgress t), trivial⟩)
    (fun _ _ _ h hReady hNone hQueue => h.trans (kept_enterClosing hReady hNone hQueue)) _ (.refl s)).1

theorem kept_enterIfDue (s : State) : Kept s s.enterIfDue := by
  unfold State.enterIfDue
  split
  · exact kept_settle s
  · exact .refl s

theorem keptIf_queueBlock {I : Prop} {s : State} {b : Nat} (hb : I → Inv s → b < 16) : KeptIf I s (s.queueBlock b) := by
  unfold State.queueBlock
  split
  · next h =>
    split
    · next hCount =>
      exact .of_slots (.of_links rfl) (fun h => h.of_eq) (fun _ hi => hi.journal.of_eq)
        (fun hI hi => hi.blocks.queue (hb hI hi) h.1 h.2 hCount rfl) retiring_of_blocks
    · exact (kept_capture ..).keptIf
  · exact (Kept.refl s).keptIf

/-! The start of a grant -/

theorem kept_beginGrant (s : State) (pl : Place) : Kept s (s.beginGrant pl) :=
  (Kept.setPointer s pl false).trans (kept_enterIfDue _)

theorem kept_grantStart (s : State) (p : Port) : Kept s (s.grantStart p) := (Kept.setNotices s _).trans (kept_beginGrant _ _)

/-- The scrub timer restarts as the indicator is cleared (R131). -/
theorem kept_scrubStart {s : State} (h : s.running = true) :
    Kept s (s.setArbiter { s.arbiter with scrubDue := false, lastWasScrub := true,
                                          scrubTimer := if s.settings.scrubPace = 0 then none else some s.settings.scrubPace }) := by
  refine .of_slots (.of_links rfl) (fun hl => ?_) (fun hi => hi.journal.of_eq) (fun hi => hi.blocks.of_eq) retiring_of_blocks
  obtain ⟨h1, h2, h3, -, -, h6, h7, h8⟩ := hl
  have hRun : s.engine.state ≠ .initializing := of_decide_eq_true h
  refine ⟨h1, h2, h3, ?_, by simp, h6, h7, h8⟩
  by_cases h0 : s.settings.scrubPace = 0
  · simp_all
  · simp_all

theorem kept_beginScrub {s : State} (h : s.running = true) : Kept s s.beginScrub := (kept_scrubStart h).trans (kept_enterIfDue _)

end Sys2Proof.Machine
end

section
/-! PROOFS. What the operations on one entry keep: its storage is written, its fields change, it goes, it comes, it moves. -/

-- The proofs are checked one after the other: run at once, their threads would exceed the memory bound of the check.
set_option Elab.async false

namespace Sys2Proof.Machine

/-- A slot's storage is written, a live slot's with the body it had. -/
theorem keptIf_putSlot {I : Prop} (s : State) {n : Nat} {x : StoredSlot} (hn : I → Inv s → n < 1024)
    (hBody : I → Inv s → s.assoc n ≠ none → x.body = (s.stored n).body) : KeptIf I s (s.putSlot n x) :=
  .of_slots (.of_links (by simp)) (fun h => h.of_eq) (fun hI hi => hi.journal.put (hn hI hi) (hBody hI hi) rfl)
    (fun _ hi => hi.blocks.of_eq) retiring_of_blocks

theorem keptIf_freeWrite {I : Prop} (s : State) {n : Nat} (hn : I → Inv s → n < 1024) (hFree : I → Inv s → s.assoc n = none) :
    KeptIf I s (s.freeWrite n) := keptIf_putSlot s hn fun hI hi hne => absurd (hFree hI hi) hne

/-! An entry's fields change -/

theorem bodyWrite_journal {s : State} {n : Nat} {k : RegionKey} {e : EntryBody} (hl : s.Lives n k e) (e' : EntryBody) :
    (s.bodyWrite n e').journal = { s.journal with
      store := SlotMap.insert n { s.stored n with body := .entry e', ecc := .clean } s.journal.store
      index := SlotMap.insert n { key := k, summary := e'.summary } s.journal.index } := by
  obtain ⟨a, ha, rfl, -⟩ := lives_iff.1 hl
  simp only [State.bodyWrite, ha]
  rfl

/-- The orphan list with an entry in its place. -/
def State.withOrphan (s : State) (k : RegionKey) (stamp : Stamp) : State :=
  s.setJournal { s.journal with orphans := insertOrphan ⟨k, stamp⟩ (s.journal.orphans.filter fun o => o.key ≠ k) }

theorem joinOrphans_eq (s : State) (k : RegionKey) (stamp : Stamp) :
    s.joinOrphans k stamp = if s.journal.orphans.isEmpty
      then (s.withOrphan k stamp).raiseBoth .orphansPresent (some (wordOf (s.withOrphan k stamp).orphanCount))
      else s.withOrphan k stamp := rfl

theorem kept_tellOrphans {s u : State} {k : RegionKey} {stamp : Stamp} {I : Prop} (h : KeptIf I s (u.withOrphan k stamp)) :
    KeptIf I s (u.joinOrphans k stamp) := by
  rw [joinOrphans_eq]
  split
  · exact h.trans (kept_raiseBoth ..).keptIf
  · exact h

/-- The laws once the body of a live slot has taken other fields, with the orphan list as the entry's new state requires. -/
theorem keptIf_rebody {I : Prop} {s t : State} {n : Nat} {k : RegionKey} {e' : EntryBody}
    (hl : I → Inv s → ∃ e, s.Lives n k e ∧ (e'.stamp = e.stamp ∨ e'.stamp = 0#64)) (hOk : I → Inv s → EntryOk e' s.journal.stamp)
    (h0 : I → Inv s → t.journal.store = SlotMap.insert n { s.stored n with body := .entry e', ecc := .clean } s.journal.store)
    (h1 : I → Inv s → t.journal.index = SlotMap.insert n { key := k, summary := e'.summary } s.journal.index)
    (h2 : I → Inv s → t.journal.orphans = if e'.state = .orphan
      then insertOrphan ⟨k, e'.stamp⟩ (s.journal.orphans.filter fun o => o.key ≠ k)
      else s.journal.orphans.filter fun o => o.key ≠ k)
    (hLinks : t.links = s.links := by simp) (hSessions : t.sessions = s.sessions := by simp)
    (hArbiter : t.arbiter = s.arbiter := by simp) (hPool : t.journal.pool = s.journal.pool := by simp)
    (hCounter : t.journal.stamp = s.journal.stamp := by simp) (hGen : t.journal.generation = s.journal.generation := by simp)
    (hEngine : t.engine = s.engine := by simp) (hSweeper : t.sweeper = s.sweeper := by simp)
    (hIntegrity : t.integrity = s.integrity := by simp) (hService : t.service = s.service := by simp)
    (hFaults : t.faults = s.faults := by simp) (hFree : t.freeCount = s.freeCount := by simp) : KeptIf I s t := by
  refine .of_slots (.of_links hLinks) (fun h => h.of_eq (by rw [hEngine]) (by rw [hEngine]) (by rw [hEngine]) (by rw [hIntegrity])
    (by rw [hArbiter]) (by rw [hArbiter]) (by rw [hArbiter]) (by rw [hService]) hCounter hGen (by rw [hSweeper])) (fun hI hi => ?_)
    (fun hI hi => ?_) (retiring_of_blocks (by rw [hIntegrity])) hSessions hFaults hService hSweeper (by rw [hIntegrity])
    (by rw [hEngine])
  · obtain ⟨e, he, hStamp⟩ := hl hI hi
    exact hi.journal.rebody he (hOk hI hi) hStamp (h0 hI hi) rfl (h1 hI hi) (h2 hI hi) hPool hCounter hFree
      (by rw [hEngine]) (by rw [hEngine])
  · obtain ⟨e, he, -⟩ := hl hI hi
    obtain ⟨a, ha, -, -⟩ := lives_iff.1 he
    refine hi.blocks.of_eq (by rw [hIntegrity]) (by rw [hIntegrity]) (by rw [hIntegrity]) hPool ?_ (fun m => ?_) (by rw [hEngine])
    · rw [h1 hI hi]
      exact SlotMap.map_fst_insert _ hi.journal.indexWf ha
    · rw [assoc_insert (h1 hI hi)]
      split
      · next hmn => rw [hmn, ha]; simp
      · rfl

theorem filter_of_not_orphan {s : State} (hi : Inv s) {n : Nat} {k : RegionKey} {e : EntryBody} (hl : s.Lives n k e)
    (he : e.state ≠ .orphan) : (s.journal.orphans.filter fun o => o.key ≠ k) = s.journal.orphans :=
  hi.journal.table.filter_key hl he

/-- An entry that is not ORPHAN before and after. -/
theorem keptIf_bodyWrite {I : Prop} {s : State} {n : Nat} {k : RegionKey} {e e' : EntryBody} (hl : I → Inv s → s.Lives n k e)
    (hOk : I → Inv s → EntryOk e' s.journal.stamp) (hStamp : I → Inv s → e'.stamp = e.stamp)
    (hOld : I → Inv s → e.state ≠ .orphan) (hNew : I → Inv s → e'.state ≠ .orphan) : KeptIf I s (s.bodyWrite n e') := by
  refine keptIf_rebody (fun hI hi => ⟨e, hl hI hi, .inl (hStamp hI hi)⟩) hOk (fun hI hi => ?_) (fun hI hi => ?_) fun hI hi => ?_
  · rw [bodyWrite_journal (hl hI hi)]
  · rw [bodyWrite_journal (hl hI hi)]
  · rw [if_neg (hNew hI hi), filter_of_not_orphan hi (hl hI hi) (hOld hI hi), bodyWrite_journal (hl hI hi)]

/-- An entry that is ORPHAN afterwards joins the list at its stamp. -/
theorem keptIf_bodyWrite_joinOrphans {I : Prop} {s : State} {n : Nat} {k : RegionKey} {e' : EntryBody}
    (hl : I → Inv s → ∃ e, s.Lives n k e ∧ (e'.stamp = e.stamp ∨ e'.stamp = 0#64)) (hOk : I → Inv s → EntryOk e' s.journal.stamp)
    (hNew : e'.state = .orphan) {stamp : Stamp} (hs : e'.stamp = stamp) : KeptIf I s ((s.bodyWrite n e').joinOrphans k stamp) := by
  have hJournal : I → Inv s → ((s.bodyWrite n e').withOrphan k stamp).journal = { s.journal with
      store := SlotMap.insert n { s.stored n with body := .entry e', ecc := .clean } s.journal.store
      index := SlotMap.insert n { key := k, summary := e'.summary } s.journal.index
      orphans := insertOrphan ⟨k, e'.stamp⟩ (s.journal.orphans.filter fun o => o.key ≠ k) } := fun hI hi => by
    obtain ⟨e, he, -⟩ := hl hI hi
    rw [State.withOrphan, bodyWrite_journal he, hs]
    rfl
  refine kept_tellOrphans (keptIf_rebody hl hOk (fun hI hi => ?_) (fun hI hi => ?_) (fun hI hi => ?_) ?_ ?_ ?_ ?_ ?_ ?_ ?_ ?_
    ?_ ?_ ?_ ?_)
  · rw [hJournal hI hi]
  · rw [hJournal hI hi]
  · rw [hJournal hI hi, if_pos hNew]
  all_goals simp [State.withOrphan]

/-- An entry leaves the list as it leaves ORPHAN. -/
theorem keptIf_dropOrphan_bodyWrite {I : Prop} {s : State} {n : Nat} {k : RegionKey} {e e' : EntryBody}
    (hl : I → Inv s → s.Lives n k e) (hOk : I → Inv s → EntryOk e' s.journal.stamp) (hStamp : I → Inv s → e'.stamp = e.stamp)
    (hNew : e'.state ≠ .orphan) : KeptIf I s ((s.dropOrphan k).bodyWrite n e') := by
  have hl' : I → Inv s → (s.dropOrphan k).Lives n k e := fun hI hi => (lives_congr (by simp) (by simp) k e).2 (hl hI hi)
  refine keptIf_rebody (fun hI hi => ⟨e, hl hI hi, .inl (hStamp hI hi)⟩) hOk (fun hI hi => ?_) (fun hI hi => ?_) fun hI hi => ?_
  · rw [bodyWrite_journal (hl' hI hi)]
    rfl
  · rw [bodyWrite_journal (hl' hI hi)]
    rfl
  · rw [if_neg hNew, bodyWrite_journal (hl' hI hi)]
    rfl

/-- A key that no live entry has stands in no place of the list. -/
theorem keptIf_dropOrphan {I : Prop} {s : State} {k : RegionKey} (hFresh : I → Inv s → ∀ m f, ¬s.Lives m k f) :
    KeptIf I s (s.dropOrphan k) := by
  refine .of_slots (.of_links (by simp)) (fun h => h.of_eq) (fun hI hi => hi.journal.of_eq (h4 := ?_))
    (fun _ hi => hi.blocks.of_eq) retiring_of_blocks
  refine List.filter_eq_self.2 fun o ho => decide_eq_true fun hk => ?_
  obtain ⟨m, f, hm, -⟩ := (hi.journal.table.listed o).1 ho
  exact hFresh hI hi m f (hk ▸ hm)

/-! An entry goes -/

/-- The state with the entry of key `k` in slot `n` gone: out of the orphan list, the slot free and no longer named, and the reserve
lowered when its block is in progress. -/
def State.strike (s : State) (n : Nat) (k : RegionKey) : State :=
  let t := ((s.dropOrphan k).unlink n).freeWrite n
  if (t.block (blockOf n)).state.inProgress then t.lowerReserve else t

theorem strike_frame (s : State) (n : Nat) (k : RegionKey) :
    (s.strike n k).links = s.links ∧ (s.strike n k).sessions = s.sessions ∧
    (s.strike n k).arbiter = s.arbiterWithout n ∧
    (s.strike n k).journal = { s.journal with
      store := SlotMap.insert n freeSlot s.journal.store
      index := SlotMap.erase n s.journal.index
      orphans := s.journal.orphans.filter fun o => o.key ≠ k } ∧
    (s.strike n k).engine = s.engine ∧ (s.strike n k).sweeper = s.sweeper ∧
    (s.strike n k).integrity = { s.integrity with
      reserve := if (s.block (blockOf n)).state.inProgress = true then s.integrity.reserve - 1 else s.integrity.reserve } ∧
    (s.strike n k).notices = s.notices ∧ (s.strike n k).service = s.service ∧ (s.strike n k).faults = s.faults ∧
    (s.strike n k).resetCtl = s.resetCtl ∧ (s.strike n k).freeCount = s.freeCount ∧ (s.strike n k).pending = s.pending := by
  unfold State.strike
  dsimp only
  split
  · next h =>
    have h' : (s.block (blockOf n)).state.inProgress = true := h
    rw [if_pos h']
    exact ⟨rfl, rfl, rfl, rfl, rfl, rfl, rfl, rfl, rfl, rfl, rfl, rfl, rfl⟩
  · next h =>
    have h' : ¬(s.block (blockOf n)).state.inProgress = true := h
    rw [if_neg h']
    exact ⟨rfl, rfl, rfl, rfl, rfl, rfl, rfl, rfl, rfl, rfl, rfl, rfl, rfl⟩

/-- The sweeper's request, made while a sweep was pending, may stand (R86). -/
theorem EngineLaw.arbiterWithout {s t : State} (h : EngineLaw s) {n : Nat} (h0 : t.arbiter = s.arbiterWithout n)
    (h1 : t.engine = s.engine := by simp) (h2 : t.integrity.leakTimer = s.integrity.leakTimer := by simp)
    (h3 : t.service = s.service := by simp) (h4 : t.journal.stamp = s.journal.stamp := by simp)
    (h5 : t.journal.generation = s.journal.generation := by simp) (h6 : t.sweeper = s.sweeper := by simp) : EngineLaw t := by
  unfold EngineLaw
  rw [settings_eq, h0, h1, h2, h3, h4, h5, h6]
  obtain ⟨a1, a2, a3, a4, a5, a6, a7, a8⟩ := h
  refine ⟨a1, a2, a3, a4, a5, a6, a7, fun hr => ?_⟩
  simp only [State.arbiterWithout, Bool.or_eq_true, Bool.and_eq_true, decide_eq_true_eq] at hr
  rcases hr with hr | ⟨⟨hp, hs⟩, -⟩
  · exact a8 hr
  · exact ⟨hp, hs⟩

theorem keptIf_strike {I : Prop} {s : State} {n : Nat} {k : RegionKey} (hl : I → Inv s → ∃ e, s.Lives n k e) :
    KeptIf I s (s.strike n k) := by
  obtain ⟨hLinks, hSessions, hArbiter, hJournal, hEngine, hSweeper, hIntegrity, -, hService, hFaults, -, hFree, -⟩ := strike_frame s n k
  have hGone : I → Inv s → JournalOk (s.strike n k) := fun hI hi => by
    obtain ⟨e, he⟩ := hl hI hi
    exact hi.journal.erase he (by rw [hJournal]) (by rw [hJournal]) (by rw [hJournal]) (by rw [hJournal]) (by rw [hJournal]) hFree
      (by rw [hEngine]) (by rw [hEngine])
  refine .of_slots (.of_links hLinks) (fun h => h.arbiterWithout hArbiter hEngine (by rw [hIntegrity]) hService (by rw [hJournal])
    (by rw [hJournal]) hSweeper) hGone (fun hI hi => ?_) (retiring_of_blocks (by rw [hIntegrity])) hSessions hFaults hService hSweeper
    (by rw [hIntegrity]) (by rw [hEngine])
  obtain ⟨e, he⟩ := hl hI hi
  obtain ⟨a, ha, -, -⟩ := lives_iff.1 he
  exact hi.blocks.erase hi.journal.toSlotsOk (hGone hI hi).toSlotsOk (assoc_ne_none ha) (by rw [hJournal])
    (by rw [hIntegrity]) (by rw [hJournal]) (by rw [hIntegrity]) (by rw [hIntegrity]) (by rw [hEngine])

/-! An entry comes -/

/-- A new entry takes the head free slot `n`. -/
def State.created (s : State) (p : Port) (k : RegionKey) (note : List Word) (n : Nat) (rest : List Nat) : State :=
  (s.setJournal { s.journal with pool := rest, stamp := s.journal.stamp + 1#64 }).entryWrite n k
    (newBody p (s.session p).epoch s.journal.stamp note)

theorem created_frame (s : State) (p : Port) (k : RegionKey) (note : List Word) (n : Nat) (rest : List Nat) :
    (s.created p k note n rest).links = s.links ∧ (s.created p k note n rest).sessions = s.sessions ∧
    (s.created p k note n rest).arbiter = s.arbiter ∧
    (s.created p k note n rest).journal = { s.journal with
      store := SlotMap.insert n (entrySlot k (newBody p (s.session p).epoch s.journal.stamp note)) s.journal.store
      index := SlotMap.insert n { key := k, summary := (newBody p (s.session p).epoch s.journal.stamp note).summary } s.journal.index
      pool := rest, stamp := s.journal.stamp + 1#64 } ∧
    (s.created p k note n rest).engine = s.engine ∧ (s.created p k note n rest).sweeper = s.sweeper ∧
    (s.created p k note n rest).integrity = s.integrity ∧ (s.created p k note n rest).notices = s.notices ∧
    (s.created p k note n rest).service = s.service ∧ (s.created p k note n rest).faults = s.faults ∧
    (s.created p k note n rest).resetCtl = s.resetCtl ∧ (s.created p k note n rest).freeCount = s.freeCount ∧
    (s.created p k note n rest).pending = s.pending :=
  ⟨rfl, rfl, rfl, rfl, rfl, rfl, rfl, rfl, rfl, rfl, rfl, rfl, rfl⟩

theorem newBody_fields (p : Port) (epoch : Epoch) (stamp : Stamp) (note : List Word) :
    (newBody p epoch stamp note).state = .opened ∧ (newBody p epoch stamp note).stamp = stamp ∧
    (newBody p epoch stamp note).adopter = none ∧ (newBody p epoch stamp note).note = note := by
  cases p <;> exact ⟨rfl, rfl, rfl, rfl⟩

theorem newBody_hold (p q : Port) (epoch : Epoch) (stamp : Stamp) (note : List Word) :
    (newBody p epoch stamp note).hold q = if q = p then some { count := 1, epoch := epoch } else none := by
  cases p <;> cases q <;> rfl

theorem newBody_ok {p : Port} {epoch : Epoch} {stamp : Stamp} {note : List Word} {counter : Stamp} (hEpoch : epoch ≠ 0#16)
    (hNote : note.length ≤ 2) (hStamp : stamp ≠ 0#64) (hlt : stamp.toNat < counter.toNat) :
    EntryOk (newBody p epoch stamp note) counter := by
  obtain ⟨hState, hSame, hAdopter, hWords⟩ := newBody_fields p epoch stamp note
  refine ⟨fun _ => ⟨?_, hAdopter⟩, fun h => ?_, fun h => ?_, fun q h hq => ?_, fun a ha => ?_, by rw [hWords]; exact hNote, fun h0 => ?_,
    fun _ => by rw [hSame]; exact hlt⟩
  · cases p <;> simp [newBody, EntryBody.setHold]
  · rw [hState] at h
    cases h
  · rw [hState] at h
    cases h
  · rw [newBody_hold] at hq
    split at hq
    · obtain rfl := Option.some.inj hq
      exact ⟨Nat.le_refl 1, by simp, hEpoch⟩
    · cases hq
  · rw [hAdopter] at ha
    cases ha
  · exact absurd (hSame.symm.trans h0) hStamp

theorem keptIf_created {I : Prop} {s : State} {p : Port} {k : RegionKey} {note : List Word} {n : Nat} {rest : List Nat}
    (hPool : s.journal.pool = n :: rest) (hOpen : s.isOpen p = true) (hMax : s.journal.stamp ≠ Config.stampMax)
    (hNote : note.length ≤ 2) (hFresh : I → Inv s → ∀ m f, ¬s.Lives m k f) : KeptIf I s (s.created p k note n rest) := by
  have hNext : s.journal.stamp ≠ 0#64 → (s.journal.stamp + 1#64).toNat = s.journal.stamp.toNat + 1 := fun _ => by
    have : s.journal.stamp ≠ 0xFFFFFFFFFFFFFFFF#64 := hMax
    bv_omega
  obtain ⟨hLinks, hSessions, hArbiter, hJournal, hEngine, hSweeper, hIntegrity, -, hService, hFaults, -, hFree, -⟩ :=
    created_frame s p k note n rest
  have hCreated : I → Inv s → JournalOk (s.created p k note n rest) := fun hI hi => by
    have hp := hi.ports p
    obtain ⟨-, -, -, -, -, hStamp, -, -⟩ := hi.engine
    obtain ⟨hState, hSame, -, -⟩ := newBody_fields p (s.session p).epoch s.journal.stamp note
    refine hi.journal.create (e := newBody p (s.session p).epoch s.journal.stamp note) hPool (hFresh hI hi) (fun hs => ?_) hMax (newBody_ok (hp.epoch hOpen) hNote hStamp ?_) ?_ hSame
      (by rw [hJournal]) (by rw [hJournal]) (by rw [hJournal]) (by rw [hJournal]) (by rw [hJournal]) hFree (by rw [hEngine])
      (by rw [hEngine])
    · have := hp.starting hs
      rw [isOpen_eq, this] at hOpen
      cases hOpen
    · rw [hNext hStamp]
      exact Nat.lt_succ_self _
    · exact fun h => absurd (hState.symm.trans h) nofun
  refine .of_slots (.of_links hLinks) (fun h => ?_) hCreated (fun hI hi => ?_) (retiring_of_blocks (by rw [hIntegrity])) hSessions
    hFaults hService hSweeper (by rw [hIntegrity]) (by rw [hEngine])
  · obtain ⟨h1, h2, h3, h4, h5, h6, h7, h8⟩ := h
    refine ⟨h1, h2, h3, h4, h5, fun h0 => ?_, h7, h8⟩
    have h0' : s.journal.stamp + 1#64 = 0#64 := h0
    have := hNext h6
    rw [h0'] at this
    simp at this
  · exact hi.blocks.create hi.journal.toSlotsOk (hCreated hI hi).toSlotsOk (n := n) (by rw [hPool]; exact List.mem_cons_self ..)
      (by rw [hJournal]) (by rw [hJournal, hPool]; exact List.sublist_cons_self n rest) (by rw [hIntegrity]) (by rw [hIntegrity])
      (by rw [hIntegrity]) (by rw [hEngine])

end Sys2Proof.Machine
end

section
/-! PROOFS. The slot read (R4, R75, R153, R156 to R162): what it keeps, and what it leaves of the entry read. -/

-- The proofs are checked one after the other: run at once, their threads would exceed the memory bound of the check.
set_option Elab.async false

namespace Sys2Proof.Machine

/-! Step 2: the bucket and the retire queue -/

theorem readBucket_le {bucket threshold : Nat} (hb : bucket ≤ 15) (ht : threshold ≤ 15) (o : ReadOutcome) :
    readBucket bucket threshold o ≤ 15 := by
  unfold readBucket Config.bucketMax
  dsimp only
  split
  · split <;> omega
  · split
    · split <;> omega
    · omega
  · split <;> omega

/-- The state with the bucket of a block as a read leaves it. -/
def State.withBucket (s : State) (b v : Nat) : State := s.setIntegrity (s.integrity.setBlock b { s.block b with bucket := v })

theorem withBucket_eq (s : State) (b v : Nat) :
    s.withBucket b v = s.setIntegrity (s.integrity.setBlock b { s.block b with bucket := v }) := rfl

theorem withBucket_block (s : State) (b v c : Nat) :
    (s.withBucket b v).block c = if c = b ∧ b < 16 then { s.block b with bucket := v } else s.block c := block_setBlock ..

theorem withBucket_state (s : State) (b v c : Nat) : ((s.withBucket b v).block c).state = (s.block c).state := by
  rw [withBucket_block]
  split
  · next h => rw [h.1]
  · rfl

theorem kept_withBucket {s : State} {b v : Nat} (hv : Inv s → v ≤ 15) : Kept s (s.withBucket b v) := by
  have hBuckets : Inv s → ∀ c, ((s.withBucket b v).block c).bucket ≤ 15 := fun hi c => by
    rw [withBucket_block]
    split
    · exact hv hi
    · exact hi.blocks.retirement.1 c
  have hStates : ∀ c, ((s.withBucket b v).block c).state = (s.block c).state := withBucket_state s b v
  rw [withBucket_eq] at hBuckets hStates ⊢
  exact .of_slots (.of_links rfl) (fun h => h.of_eq) (fun hi => hi.journal.of_eq)
    (fun hi => hi.blocks.of_states (hBuckets hi) fun c => .inl (hStates c)) fun c hc => by rwa [hStates c]

theorem Inv.bucketThreshold {s : State} (h : Inv s) : s.settings.bucketThreshold ≤ 15 := (h.settings .bucketThreshold).2

theorem kept_captureIf (c : Prop) [Decidable c] (s : State) (f : FaultRecord) : Kept s (if c then s.capture f else s) := by
  split
  · exact kept_capture s f
  · exact .refl s

theorem blockOf_lt {n : Nat} (h : n < 1024) : blockOf n < 16 := by
  unfold blockOf Config.slotsPerBlock
  omega

theorem keptIf_judgeRead {I : Prop} {s : State} {n : Nat} (hn : I → n < 1024) (o : ReadOutcome) :
    KeptIf I s (s.judgeRead n o) := by
  have hFaults := ((kept_withBucket (s := s) (b := blockOf n) fun hi =>
      readBucket_le (hi.blocks.retirement.1 (blockOf n)) hi.bucketThreshold o).trans (kept_captureIf (o.vote = .oneOff) _
      { kind := .keyCorrected, slot := some n, block := some (blockOf n), key := s.keyAt n })).trans
    (kept_captureIf (o.ecc = .corrected ∧ o.vote.lost = false) _
      { kind := .bodyCorrected, slot := some n, block := some (blockOf n), key := s.keyAt n })
  unfold State.judgeRead
  dsimp only
  split
  · exact (hFaults.keptIf.trans (keptIf_queueBlock fun hI _ => blockOf_lt (hn hI))).trans (kept_enterIfDue _).keptIf
  · exact hFaults.keptIf

/-! Step 3: the outcomes are acted upon -/

theorem lowerHolders_lives (s : State) (x : HolderSummary) (n : Nat) (k : RegionKey) (e : EntryBody) :
    (s.lowerHolders x).Lives n k e ↔ s.Lives n k e := lives_congr (by simp) (by simp) k e

theorem loseEntry_eq (s : State) (n : Nat) (a : Association) :
    s.loseEntry n a =
      let t := (s.lowerHolders a.summary).strike n a.key
      (((t.setJournal { t.journal with compromised := true }).raiseBoth .journalCompromised none).capture
        { kind := .keyLost, slot := some n, block := some (blockOf n), key := some a.key }).settle := rfl

theorem kept_loseEntry {s : State} {n : Nat} {a : Association} (hl : Inv s → ∃ e, s.Lives n a.key e) : Kept s (s.loseEntry n a) := by
  rw [loseEntry_eq]
  refine ((((kept_lowerHolders s a.summary).thenIf (keptIf_strike fun hi _ => ?_)).trans (.setCompromised _ true)).trans
    ((kept_raiseBoth ..).trans (kept_capture ..))).trans (kept_settle _)
  obtain ⟨e, he⟩ := hl hi
  exact ⟨e, (lowerHolders_lives ..).2 he⟩

theorem keptIf_loseFreeSlot {I : Prop} {s : State} {n : Nat} (hn : I → n < 1024) (hFree : s.assoc n = none) :
    KeptIf I s (s.loseFreeSlot n) := by
  have hWrite := keptIf_freeWrite s (fun hI _ => hn hI) fun _ _ => hFree
  unfold State.loseFreeSlot
  dsimp only
  split
  · exact hWrite.trans ((((kept_withdraw _ List.filter_sublist).trans (kept_lowWaterTest _)).trans (kept_settle _)).trans
      (kept_capture ..)).keptIf
  · exact hWrite.trans (kept_capture ..).keptIf

theorem keyWrite_lives (s : State) (n : Nat) (v : KeyValue) (k : RegionKey) (e : EntryBody) :
    (s.keyWrite n v).Lives n k e ↔ s.Lives n k e := by
  refine lives_congr (by simp) ?_ k e
  rw [State.keyWrite, putSlot_stored_same]

theorem damagedBody_ok (c : Stamp) : EntryOk damagedBody c :=
  ⟨nofun, fun _ => ⟨rfl, rfl, rfl⟩, nofun, fun p _ => by cases p <;> nofun, nofun, Nat.zero_le _, fun _ => rfl, fun h => absurd rfl h⟩

theorem Inv.lt_of_lives {s : State} (h : Inv s) {n : Nat} {k : RegionKey} {e : EntryBody} (hl : s.Lives n k e) : n < 1024 := by
  obtain ⟨b, hb, -, -⟩ := lives_iff.1 hl
  exact h.journal.liveRange n (assoc_ne_none hb)

theorem kept_damageEntry {s : State} {n : Nat} {a : Association} (hl : Inv s → ∃ e, s.Lives n a.key e) :
    Kept s (s.damageEntry n a) := by
  have hRange : Inv s → n < 1024 := fun hi => by
    obtain ⟨e, he⟩ := hl hi
    exact hi.lt_of_lives he
  have hKeys : Kept s ((s.lowerHolders a.summary).keyWrite n (.key a.key)) :=
    (kept_lowerHolders s a.summary).thenIf (keptIf_putSlot _ (fun hi _ => hRange hi) fun _ _ _ => rfl)
  have hBody := keptIf_bodyWrite_joinOrphans (I := Inv s) (s := (s.lowerHolders a.summary).keyWrite n (.key a.key)) (n := n) (k := a.key)
    (e' := damagedBody) (fun hi _ => ?_) (fun _ _ => damagedBody_ok _) rfl rfl
  · exact ((hKeys.thenIf hBody).trans (kept_raiseBoth ..)).trans (kept_capture ..)
  · obtain ⟨e, he⟩ := hl hi
    exact ⟨e, (keyWrite_lives ..).2 ((lowerHolders_lives ..).2 he), .inr rfl⟩

theorem keptIf_rewrite {I : Prop} {s : State} {n : Nat} (hn : I → n < 1024) : KeptIf I s (s.rewrite n) := by
  unfold State.rewrite
  exact keptIf_putSlot s (fun hI _ => hn hI) fun _ _ _ => rfl

theorem SlotsOk.lives {s : State} (h : SlotsOk s) {n : Nat} {a : Association} (ha : s.assoc n = some a) : ∃ e, s.Lives n a.key e := by
  obtain ⟨e, he, -⟩ := h.exists_entry ha
  exact ⟨e, he⟩

theorem keptIf_actOnRead {I : Prop} {s : State} {n : Nat} (hn : I → n < 1024) (o : ReadOutcome) :
    KeptIf I s (s.actOnRead n (s.assoc n) o) := by
  cases ha : s.assoc n with
  | none =>
    have hWrite : KeptIf I s (s.freeWrite n) := keptIf_freeWrite s (fun hI _ => hn hI) fun _ _ => ha
    simp only [State.actOnRead]
    split
    · exact keptIf_loseFreeSlot hn ha
    split
    · exact hWrite.trans (kept_capture ..).keptIf
    · exact hWrite
    · split
      · exact hWrite
      · exact (Kept.refl s).keptIf
  | some a =>
    simp only [State.actOnRead]
    split
    · exact (kept_loseEntry fun hi => hi.journal.lives ha).keptIf
    split
    · exact (kept_damageEntry fun hi => hi.journal.lives ha).keptIf
    · exact keptIf_rewrite hn
    · split
      · exact keptIf_rewrite hn
      · exact (Kept.refl s).keptIf

theorem readRaw_eq (s : State) (n : Nat) (w : SlotWear) :
    ∃ t : State, (t = s ∨ t = s.putSlot n (w.onto (s.stored n))) ∧ (s.readRaw n w = t ∨
      s.readRaw n w = (t.judgeRead n (s.readOutcome n w)).actOnRead n ((t.judgeRead n (s.readOutcome n w)).assoc n) (s.readOutcome n w)) := by
  have hAssoc : ∀ t : State, t.journal.index = s.journal.index → (t.judgeRead n (s.readOutcome n w)).assoc n = s.assoc n := fun t ht => by
    rw [assoc_eq, assoc_eq, (judgeRead_frame t n _).2.2.2.1, ht]
  refine ⟨if w = {} then s else s.putSlot n (w.onto (s.stored n)), ?_, ?_⟩
  · split
    · exact .inl rfl
    · exact .inr rfl
  · rw [hAssoc]
    · unfold State.readRaw
      dsimp only
      split
      · exact .inl rfl
      · exact .inr rfl
    · split
      · rfl
      · simp

theorem kept_readRaw {s : State} {n : Nat} (hn : Inv s → n < 1024) (w : SlotWear) : Kept s (s.readRaw n w) := by
  obtain ⟨t, ht, hRead⟩ := readRaw_eq s n w
  have hWear : KeptIf (Inv s) s t := by
    rcases ht with rfl | rfl
    · exact (Kept.refl _).keptIf
    · exact keptIf_putSlot s (fun hi _ => hn hi) fun _ _ _ => rfl
  rcases hRead with hRead | hRead
  · rw [hRead]
    exact hWear.kept
  · rw [hRead]
    exact ((hWear.trans (keptIf_judgeRead hn _)).trans (keptIf_actOnRead hn _)).kept

/-! Step 4: conversion on touch -/

theorem converted_cases (s : State) (e : EntryBody) :
    s.converted e = e ∨
    (e.state = .opened ∧ (s.holdDead .a e.holdA || s.holdDead .b e.holdB) = true ∧ s.converted e = { e with
      holdA := s.convertHold .a e.holdA, holdB := s.convertHold .b e.holdB, lostHolder := true
      state := if (s.convertHold .a e.holdA).isNone && (s.convertHold .b e.holdB).isNone then .orphan else .opened }) ∨
    ∃ x, e.state = .adopted ∧ e.adopter = some x ∧ s.adopterLive x = false ∧
      s.converted e = { e with state := .orphan, adopter := none } := by
  unfold State.converted
  split
  · next hs =>
    split
    · next hDead => exact .inr (.inl ⟨hs, hDead, rfl⟩)
    · exact .inl rfl
  · exact .inl rfl
  · next hs =>
    split
    · next x hx =>
      split
      · exact .inl rfl
      · next hLive => exact .inr (.inr ⟨x, hs, hx, Bool.eq_false_iff.2 hLive, rfl⟩)
    · exact .inl rfl

theorem converted_stamp (s : State) (e : EntryBody) : (s.converted e).stamp = e.stamp := by
  rcases converted_cases s e with h | ⟨-, -, h⟩ | ⟨x, -, -, -, h⟩ <;> rw [h]

theorem convertHold_eq_some {s : State} {p : Port} {x : Option Held} {h : Held} (hx : s.convertHold p x = some h) :
    x = some h ∧ s.epochLive p h.epoch = true := by
  unfold State.convertHold at hx
  split at hx
  · cases hx
  · next hLive =>
    subst hx
    simpa [State.holdDead] using hLive

theorem converted_ok {s : State} {e : EntryBody} {c : Stamp} (h : EntryOk e c) : EntryOk (s.converted e) c := by
  rcases converted_cases s e with he | ⟨hs, -, he⟩ | ⟨x, hs, -, -, he⟩
  · rwa [he]
  · have hNone : e.adopter = none := (h.opened hs).2
    rw [he]
    refine ⟨fun ho => ⟨?_, hNone⟩, fun ho => ?_, fun ho => ?_, fun p x hx => ?_, h.adopter, h.note, h.stampless, h.stamped⟩
    · dsimp only at ho ⊢
      split at ho
      · cases ho
      · next hSome =>
        revert hSome
        cases s.convertHold .a e.holdA <;> cases s.convertHold .b e.holdB <;> simp
    · dsimp only at ho ⊢
      split at ho
      · next hBoth => simpa [hNone] using hBoth
      · cases ho
    · dsimp only at ho
      split at ho <;> cases ho
    · have hx' : s.convertHold p (e.hold p) = some x := by cases p <;> exact hx
      exact h.holds p x (convertHold_eq_some hx').1
  · obtain ⟨hA, hB, -⟩ := h.adopted hs
    rw [he]
    exact ⟨nofun, fun _ => ⟨hA, hB, rfl⟩, nofun, h.holds, nofun, h.note, h.stampless, h.stamped⟩

theorem convertOnTouch_of_free {s : State} {n : Nat} (h : s.assoc n = none) : s.convertOnTouch n = s := by
  simp only [State.convertOnTouch, State.entryAt, h]
  rfl

theorem convertOnTouch_of_lives {s : State} {n : Nat} {k : RegionKey} {e : EntryBody} (h : s.Lives n k e) :
    s.convertOnTouch n = if s.converted e = e then s
      else if (s.converted e).state = .orphan then (s.bodyWrite n (s.converted e)).joinOrphans k e.stamp
      else s.bodyWrite n (s.converted e) := by
  simp only [State.convertOnTouch, h.1, h.2]

theorem converted_of_orphan (s : State) {e : EntryBody} (h : e.state = .orphan) : s.converted e = e := by
  simp only [State.converted, h]

theorem kept_convertOnTouch (s : State) (n : Nat) : Kept s (s.convertOnTouch n) := by
  unfold State.convertOnTouch
  split
  · next e k he hk =>
    have hl : s.Lives n k e := ⟨hk, he⟩
    dsimp only
    split
    · exact .refl s
    · next hNe =>
      have hOk : True → Inv s → EntryOk (s.converted e) s.journal.stamp := fun _ hi => converted_ok (hi.journal.table.fields hl)
      split
      · next hOrphan =>
        exact KeptIf.kept (keptIf_bodyWrite_joinOrphans (fun _ _ => ⟨e, hl, .inl (converted_stamp s e)⟩) (fun _ => hOk trivial) hOrphan
          (converted_stamp s e))
      · next hNew =>
        exact KeptIf.kept (keptIf_bodyWrite (fun _ _ => hl) (fun _ => hOk trivial) (fun _ _ => converted_stamp s e)
          (fun _ _ h => hNe (converted_of_orphan s h)) fun _ _ => hNew)
  · exact .refl s

theorem kept_readSlot {s : State} {n : Nat} (hn : Inv s → n < 1024) (w : SlotWear) : Kept s (s.readSlot n w) :=
  (kept_readRaw hn w).trans (kept_convertOnTouch _ n)

end Sys2Proof.Machine
end

section
/-! PROOFS. What a slot read leaves of the entries (R4, R75, R96, R160): the entries of other slots as they are; the one read as it is, or
damaged, or gone; then converted. -/

-- The proofs are checked one after the other: run at once, their threads would exceed the memory bound of the check.
set_option Elab.async false

namespace Sys2Proof.Machine

/-- From `s` to `t` the slot `n` has been read, without conversion. -/
structure ReadLeaves (s t : State) (n : Nat) : Prop where
  other : ∀ m, m ≠ n → t.assoc m = s.assoc m ∧ t.stored m = s.stored m
  here : t.assoc n = none ∨ (t.assoc n = s.assoc n ∧ (t.stored n).body = (s.stored n).body) ∨
    ∃ a, s.assoc n = some a ∧ t.assoc n = some { key := a.key, summary := damagedBody.summary } ∧
      (t.stored n).body = .entry damagedBody

namespace ReadLeaves

/-- A slot's storage is written with the body it had. -/
theorem of_body {s t : State} {n : Nat} {x : StoredSlot} (h0 : t.journal.store = SlotMap.insert n x s.journal.store)
    (h1 : t.journal.index = s.journal.index := by simp) (h2 : t.freeCount = s.freeCount := by simp)
    (hx : s.assoc n ≠ none → x.body = (s.stored n).body) : ReadLeaves s t n := by
  have hAssoc : ∀ m, t.assoc m = s.assoc m := fun m => by rw [assoc_eq, h1]; rfl
  refine ⟨fun m hm => ⟨hAssoc m, by rw [stored_of_insert h0 h2, if_neg hm]⟩, ?_⟩
  by_cases hn : s.assoc n = none
  · exact .inl ((hAssoc n).trans hn)
  · exact .inr (.inl ⟨hAssoc n, by rw [stored_of_insert h0 h2, if_pos rfl, hx hn]⟩)

theorem of_eq {s t : State} {n : Nat} (h0 : t.journal.store = s.journal.store := by simp)
    (h1 : t.journal.index = s.journal.index := by simp) (h2 : t.freeCount = s.freeCount := by simp) : ReadLeaves s t n := by
  have hStored : ∀ m, t.stored m = s.stored m := fun m => by rw [stored_eq, h0, h2]; rfl
  have hAssoc : ∀ m, t.assoc m = s.assoc m := fun m => by rw [assoc_eq, h1]; rfl
  exact ⟨fun m _ => ⟨hAssoc m, hStored m⟩, .inr (.inl ⟨hAssoc n, by rw [hStored]⟩)⟩

theorem trans {s t u : State} {n : Nat} (h : ReadLeaves s t n) (h' : ReadLeaves t u n) : ReadLeaves s u n := by
  refine ⟨fun m hm => ⟨(h'.other m hm).1.trans (h.other m hm).1, (h'.other m hm).2.trans (h.other m hm).2⟩, ?_⟩
  rcases h'.here with h' | ⟨ha', hb'⟩ | ⟨a, ha, ha', hb'⟩
  · exact .inl h'
  · rw [ha', hb']
    exact h.here
  · rcases h.here with h | ⟨h, -⟩ | ⟨b, hb, h, -⟩
    · rw [h] at ha
      cases ha
    · exact .inr (.inr ⟨a, h ▸ ha, ha', hb'⟩)
    · rw [h] at ha
      obtain rfl := Option.some.inj ha
      exact .inr (.inr ⟨b, hb, ha', hb'⟩)

/-- An entry that is live after the read was live before it; it is that entry, or it is damaged. -/
theorem lives {s t : State} {n : Nat} (h : ReadLeaves s t n) {k : RegionKey} {e : EntryBody} (he : t.Lives n k e) :
    s.keyAt n = some k ∧ (s.Lives n k e ∨ e = damagedBody) := by
  obtain ⟨b, hb, hk, hBody⟩ := lives_iff.1 he
  rcases h.here with h | ⟨ha, hs⟩ | ⟨a, ha, ht, hs⟩
  · rw [h] at hb
    cases hb
  · have hl : s.Lives n k e := lives_iff.2 ⟨b, ha ▸ hb, hk, hs ▸ hBody⟩
    exact ⟨hl.1, .inl hl⟩
  · rw [ht] at hb
    obtain rfl := Option.some.inj hb
    rw [hs] at hBody
    refine ⟨by rw [State.keyAt, ha, ← hk]; rfl, .inr (BodyContent.entry.inj hBody).symm⟩

end ReadLeaves

theorem loseEntry_leaves {s : State} {n : Nat} {a : Association} (hw : s.journal.index.wf = true) :
    ReadLeaves s (s.loseEntry n a) n := by
  have hStore : (s.loseEntry n a).journal.store = SlotMap.insert n freeSlot s.journal.store := by
    rw [loseEntry_eq]
    simp [strike_frame]
  have hIndex : (s.loseEntry n a).journal.index = SlotMap.erase n s.journal.index := by
    rw [loseEntry_eq]
    simp [strike_frame]
  refine ⟨fun m hm => ⟨?_, ?_⟩, .inl ?_⟩
  · rw [assoc_erase hw hIndex, if_neg hm]
  · rw [stored_of_insert hStore (by simp), if_neg hm]
  · rw [assoc_erase hw hIndex, if_pos rfl]

theorem bodyWrite_leaves {s : State} {n : Nat} {a : Association} (ha : s.assoc n = some a) :
    ReadLeaves s (s.bodyWrite n damagedBody) n := by
  obtain ⟨hHere, hOther⟩ := bodyWrite_stored s n damagedBody
  obtain ⟨hAssoc, hAssocs⟩ := bodyWrite_assoc s n damagedBody
  refine ⟨fun m hm => ⟨hAssocs m hm, hOther m hm⟩, .inr (.inr ⟨a, ha, ?_, by rw [hHere]⟩)⟩
  rw [hAssoc, ha]
  rfl

theorem damageEntry_leaves {s : State} {n : Nat} {a b : Association} (ha : s.assoc n = some b) :
    ReadLeaves s (s.damageEntry n a) n := by
  have hKeys : ReadLeaves s ((s.lowerHolders a.summary).keyWrite n (.key a.key)) n :=
    .trans (t := s.lowerHolders a.summary) .of_eq (.of_body rfl rfl rfl fun _ => rfl)
  refine (hKeys.trans (bodyWrite_leaves (a := b) (by simpa using ha))).trans ?_
  unfold State.damageEntry
  exact .of_eq

theorem loseFreeSlot_leaves {s : State} {n : Nat} (hn : s.assoc n = none) : ReadLeaves s (s.loseFreeSlot n) n := by
  refine .of_body (x := freeSlot) ?_ (by simp) (by simp) fun hne => absurd hn hne
  unfold State.loseFreeSlot
  dsimp only
  split <;> simp [State.freeWrite, State.putSlot]

theorem freeWrite_leaves {s : State} {n : Nat} (hn : s.assoc n = none) : ReadLeaves s (s.freeWrite n) n :=
  .of_body rfl rfl rfl fun hne => absurd hn hne

theorem actOnRead_leaves {s : State} {n : Nat} (hw : s.journal.index.wf = true) (o : ReadOutcome) :
    ReadLeaves s (s.actOnRead n (s.assoc n) o) n := by
  have hRewrite : ReadLeaves s (s.rewrite n) n := .of_body rfl rfl rfl fun _ => rfl
  cases ha : s.assoc n with
  | none =>
    simp only [State.actOnRead]
    split
    · exact loseFreeSlot_leaves ha
    split
    · exact (freeWrite_leaves ha).trans .of_eq
    · exact freeWrite_leaves ha
    · split
      · exact freeWrite_leaves ha
      · exact .of_eq
  | some a =>
    simp only [State.actOnRead]
    split
    · exact loseEntry_leaves hw
    split
    · exact damageEntry_leaves ha
    · exact hRewrite
    · split
      · exact hRewrite
      · exact .of_eq

theorem readRaw_leaves {s : State} (hw : s.journal.index.wf = true) (n : Nat) (w : SlotWear) : ReadLeaves s (s.readRaw n w) n := by
  obtain ⟨t, ht, hRead⟩ := readRaw_eq s n w
  have hWear : ReadLeaves s t n ∧ t.journal.index.wf = true := by
    rcases ht with rfl | rfl
    · exact ⟨.of_eq, hw⟩
    · exact ⟨.of_body rfl rfl rfl fun _ => rfl, by simpa using hw⟩
  rcases hRead with hRead | hRead
  · rw [hRead]
    exact hWear.1
  · rw [hRead]
    exact (hWear.1.trans .of_eq).trans (actOnRead_leaves (by simpa using hWear.2) _)

/-! Conversion -/

theorem convertOnTouch_other (s : State) {n m : Nat} (hm : m ≠ n) :
    (s.convertOnTouch n).assoc m = s.assoc m ∧ (s.convertOnTouch n).stored m = s.stored m := by
  have hWrite : ∀ e : EntryBody, (s.bodyWrite n e).assoc m = s.assoc m ∧ (s.bodyWrite n e).stored m = s.stored m := fun e =>
    ⟨(bodyWrite_assoc s n e).2 m hm, (bodyWrite_stored s n e).2 m hm⟩
  unfold State.convertOnTouch
  split
  · next e k _ _ =>
    dsimp only
    split
    · exact ⟨rfl, rfl⟩
    · split
      · obtain ⟨hAssoc, hStored⟩ := hWrite (s.converted e)
        rw [← hAssoc, ← hStored]
        simp
      · exact hWrite _
  · exact ⟨rfl, rfl⟩

theorem bodyWrite_lives {s : State} {n : Nat} {k : RegionKey} {e : EntryBody} (h : s.Lives n k e) (e' : EntryBody) :
    (s.bodyWrite n e').Lives n k e' := by
  obtain ⟨a, ha, hk, -⟩ := lives_iff.1 h
  refine lives_iff.2 ⟨{ a with summary := e'.summary }, ?_, hk, ?_⟩
  · rw [(bodyWrite_assoc s n e').1, ha]
    rfl
  · rw [(bodyWrite_stored s n e').1]

theorem lives_of_store {s t : State} (h0 : t.journal.store = s.journal.store := by simp)
    (h1 : t.journal.index = s.journal.index := by simp) (h2 : t.freeCount = s.freeCount := by simp) (n : Nat) (k : RegionKey)
    (e : EntryBody) : t.Lives n k e ↔ s.Lives n k e := by
  refine lives_congr ?_ ?_ k e
  · rw [keyAt_eq, keyAt_eq, h1]
  · rw [stored_eq, stored_eq, h0, h2]

/-- R75: the entry is converted, and stays in its slot under its key. -/
theorem convertOnTouch_lives {s : State} {n : Nat} {k : RegionKey} {e : EntryBody} (h : s.Lives n k e) :
    (s.convertOnTouch n).Lives n k (s.converted e) := by
  rw [convertOnTouch_of_lives h]
  split
  · next he => rwa [he]
  · split
    · exact (lives_of_store (by simp) (by simp) (by simp) _ _ _).2 (bodyWrite_lives h _)
    · exact bodyWrite_lives h _

theorem convertOnTouch_lives_iff {s : State} {n : Nat} {k : RegionKey} {e' : EntryBody} (hs : SlotsOk s) :
    (s.convertOnTouch n).Lives n k e' ↔ ∃ e, s.Lives n k e ∧ e' = s.converted e := by
  constructor
  · intro h
    cases ha : s.assoc n with
    | none =>
      rw [convertOnTouch_of_free ha] at h
      obtain ⟨a, ha', -⟩ := lives_iff.1 h
      rw [ha] at ha'
      cases ha'
    | some a =>
      obtain ⟨e, he⟩ := hs.lives ha
      have := convertOnTouch_lives he
      have hk : some k = some a.key := h.1.symm.trans this.1
      have he' : some e' = some (s.converted e) := h.2.symm.trans this.2
      exact ⟨e, Option.some.inj hk ▸ he, Option.some.inj he'⟩
  · rintro ⟨e, he, rfl⟩
    exact convertOnTouch_lives he

/-- R76: an OPEN entry keeps the holds that are live. -/
theorem converted_hold (s : State) {e : EntryBody} (hs : e.state = .opened) (p : Port) :
    (s.converted e).hold p = s.convertHold p (e.hold p) := by
  simp only [State.converted, hs]
  split
  · cases p <;> rfl
  · next hDead =>
    simp only [Bool.or_eq_true, not_or] at hDead
    cases p
    · exact (if_neg hDead.1).symm
    · exact (if_neg hDead.2).symm

theorem hold_none {e : EntryBody} (hA : e.holdA = none) (hB : e.holdB = none) (p : Port) : e.hold p = none := by
  cases p
  · exact hA
  · exact hB

theorem EntryOk.hold_none {e : EntryBody} {c : Stamp} (h : EntryOk e c) (hs : e.state ≠ .opened) (p : Port) : e.hold p = none := by
  cases he : e.state with
  | opened => exact absurd he hs
  | orphan => exact Machine.hold_none (h.orphan he).1 (h.orphan he).2.1 p
  | adopted => exact Machine.hold_none (h.adopted he).1 (h.adopted he).2.1 p

/-- R76: the holds that a conversion leaves are live. -/
theorem converted_hold_live {s : State} {e : EntryBody} {c : Stamp} (hOk : EntryOk e c) {p : Port} {h : Held}
    (hp : (s.converted e).hold p = some h) : s.epochLive p h.epoch = true := by
  by_cases hs : e.state = .opened
  · rw [converted_hold s hs] at hp
    exact (convertHold_eq_some hp).2
  · have hNew : (s.converted e).state ≠ .opened := by
      rcases converted_cases s e with he | ⟨ho, -, -⟩ | ⟨x, -, -, -, he⟩
      · rwa [he]
      · exact absurd ho hs
      · rw [he]
        nofun
    rw [(converted_ok hOk).hold_none hNew p] at hp
    cases hp

/-- A slot read and its conversion: the entry that is live afterwards under a key was live before under that key, and its holds are
live in the sessions that the read leaves. -/
theorem readSlot_lives {s : State} (h : Inv s) {n : Nat} (hn : n < 1024) {w : SlotWear} {k : RegionKey} {e : EntryBody}
    (he : (s.readSlot n w).Lives n k e) : s.keyAt n = some k ∧ (∀ p x, e.hold p = some x → (s.readSlot n w).epochLive p x.epoch = true) ∧
      ∃ f, (s.Lives n k f ∨ f = damagedBody) ∧ e = (s.readRaw n w).converted f := by
  have hRaw := (kept_readRaw (fun _ => hn) w).inv h
  obtain ⟨f, hf, rfl⟩ := (convertOnTouch_lives_iff hRaw.journal.toSlotsOk).1 he
  obtain ⟨hk, hOld⟩ := (readRaw_leaves h.journal.indexWf n w).lives hf
  refine ⟨hk, fun p x hx => ?_, f, hOld, rfl⟩
  have hLive := converted_hold_live (hRaw.journal.table.fields hf) hx
  have hSame : (s.readSlot n w).sessions = (s.readRaw n w).sessions := (convertOnTouch_frame _ n).1
  rw [State.epochLive, session_eq, isOpen_eq] at hLive ⊢
  rw [hSame]
  exact hLive

theorem readSlot_other {s : State} (hw : s.journal.index.wf = true) {n m : Nat} (hm : m ≠ n) (w : SlotWear) :
    (s.readSlot n w).assoc m = s.assoc m ∧ (s.readSlot n w).stored m = s.stored m := by
  obtain ⟨h1, h2⟩ := convertOnTouch_other (s.readRaw n w) hm
  obtain ⟨h3, h4⟩ := (readRaw_leaves hw n w).other m hm
  exact ⟨h1.trans h3, h2.trans h4⟩

/-- After the read of the slot that a key names, no other slot has that key. -/
theorem readSlot_fresh {s : State} (h : Inv s) {n : Nat} {k : RegionKey} (hk : s.keyAt n = some k) {w : SlotWear}
    (hGone : (s.readSlot n w).entryAt n = none) (m : Nat) (f : EntryBody) : ¬(s.readSlot n w).Lives m k f := by
  intro hf
  by_cases hm : m = n
  · rw [hm] at hf
    exact absurd (hGone.symm.trans hf.2) nofun
  · obtain ⟨hAssoc, hStored⟩ := readSlot_other h.journal.indexWf hm w
    have hf' : s.Lives m k f := (lives_congr (by rw [State.keyAt, State.keyAt, hAssoc]) (by rw [hStored]) k f).1 hf
    obtain ⟨a, ha, hak⟩ := Option.map_eq_some_iff.1 hk
    obtain ⟨e, he⟩ := h.journal.lives ha
    exact hm (h.journal.table.keys hf' (hak ▸ he))

/-! Lookups (R12) -/

theorem Inv.keyAt_of_lookup {s : State} (h : Inv s) {k : RegionKey} {n : Nat} (hk : s.lookup k = some n) : s.keyAt n = some k := by
  obtain ⟨a, ha, rfl⟩ := mem_of_findKey hk
  rw [State.keyAt, (mem_index_iff h.journal.indexWf).1 ha]
  rfl

theorem Inv.lt_of_keyAt {s : State} (h : Inv s) {k : RegionKey} {n : Nat} (hk : s.keyAt n = some k) : n < 1024 := by
  obtain ⟨a, ha, -⟩ := Option.map_eq_some_iff.1 hk
  exact h.journal.liveRange n (assoc_ne_none ha)

theorem Inv.fresh_of_lookup {s : State} (h : Inv s) {k : RegionKey} (hk : s.lookup k = none) (m : Nat) (f : EntryBody) :
    ¬s.Lives m k f := by
  intro hf
  obtain ⟨a, ha, hak, -⟩ := lives_iff.1 hf
  exact findKey_eq_none_iff.1 hk _ ((mem_index_iff h.journal.indexWf).2 ha) hak

/-- The entry of the slot that a lookup gave, as its read leaves it. -/
theorem Inv.lives_of_read {s : State} (h : Inv s) {k : RegionKey} {n : Nat} (hk : s.lookup k = some n) {w : SlotWear} {e : EntryBody}
    (he : (s.readSlot n w).entryAt n = some e) : (s.readSlot n w).Lives n k e := by
  have hKey := h.keyAt_of_lookup hk
  have hLive : (s.readSlot n w).assoc n ≠ none := (entryAt_eq_some_iff.1 he).1
  obtain ⟨a, ha⟩ := Option.ne_none_iff_exists'.1 hLive
  have hl : (s.readSlot n w).Lives n a.key e := ⟨by rw [State.keyAt, ha]; rfl, he⟩
  have := (readSlot_lives h (h.lt_of_keyAt hKey) hl).1
  rw [hKey] at this
  rwa [Option.some.inj this]

/-! Attached ports stay attached -/

/-- From `s` to `t` an attached port stays so. -/
def AttachedKept (s t : State) : Prop := ∀ p, (s.session p).state = .attached → (t.session p).state = .attached

theorem AttachedKept.of_sessions {s t : State} (h : t.sessions = s.sessions := by simp) : AttachedKept s t := fun p hp => by
  rwa [session_eq, h]

theorem AttachedKept.trans {s t u : State} (h : AttachedKept s t) (h' : AttachedKept t u) : AttachedKept s u :=
  fun p hp => h' p (h p hp)

theorem attachedKept_testDrain (s : State) (p : Port) : AttachedKept s (s.testDrain p) := by
  unfold State.testDrain
  split
  · next hDrain =>
    intro q hq
    have hne : q ≠ p := fun he => by
      rw [he, hDrain.1] at hq
      cases hq
    rw [State.detachGracefully, session_eq, (raise_frame ..).1, setSession_sessions, PerPort.get_set, if_neg hne]
    exact hq
  · exact .of_sessions rfl

theorem attachedKept_setCounts (s : State) (p : Port) (h a : Nat) :
    AttachedKept s (s.setSession p { s.session p with holdings := h, adoptions := a }) := by
  intro q hq
  rw [session_eq, setSession_sessions, PerPort.get_set]
  split
  · next he => exact he ▸ hq
  · exact hq

theorem attachedKept_lowerHolders (s : State) (x : HolderSummary) : AttachedKept s (s.lowerHolders x) := by
  have hHold : ∀ (t : State) (p : Port), AttachedKept t (t.lowerHoldings p) := fun t p =>
    (attachedKept_setCounts t p _ _).trans (attachedKept_testDrain _ p)
  have hAdopt : ∀ (t : State) (p : Port), AttachedKept t (t.lowerAdoptions p) := fun t p =>
    (attachedKept_setCounts t p _ _).trans (attachedKept_testDrain _ p)
  have hIf : ∀ (c : Prop) [Decidable c] (t : State) (p : Port), AttachedKept t (if c then t.lowerHoldings p else t) :=
    fun c _ t p => by
      split
      · exact hHold t p
      · exact .of_sessions rfl
  have hAB := (hIf (s.summaryLive .a x.holdA = true) s .a).trans (hIf (s.summaryLive .b x.holdB = true) _ .b)
  unfold State.lowerHolders
  dsimp only
  split
  · split
    · exact hAB.trans (hAdopt _ _)
    · exact hAB
  · exact hAB

theorem attachedKept_actOnRead (s : State) (n : Nat) (a : Option Association) (o : ReadOutcome) :
    AttachedKept s (s.actOnRead n a o) := by
  have hLose : ∀ x, AttachedKept s (s.loseEntry n x) := fun x => by
    rw [loseEntry_eq]
    exact (attachedKept_lowerHolders s x.summary).trans (.of_sessions (by simp [strike_frame]))
  have hDamage : ∀ x, AttachedKept s (s.damageEntry n x) := fun x =>
    (attachedKept_lowerHolders s x.summary).trans (.of_sessions (by simp [State.damageEntry]))
  unfold State.actOnRead
  split
  · split
    · exact hLose _
    · exact .of_sessions
  split
  · split
    · exact hDamage _
    · exact .of_sessions
  · split <;> exact .of_sessions
  · split
    · split <;> exact .of_sessions
    · exact .of_sessions

theorem attachedKept_readSlot (s : State) (n : Nat) (w : SlotWear) : AttachedKept s (s.readSlot n w) := by
  obtain ⟨t, ht, hRead⟩ := readRaw_eq s n w
  have hWear : AttachedKept s t := by
    rcases ht with rfl | rfl
    · exact .of_sessions rfl
    · exact .of_sessions
  refine AttachedKept.trans (t := s.readRaw n w) ?_ (.of_sessions (convertOnTouch_frame _ n).1)
  rcases hRead with hRead | hRead
  · rw [hRead]
    exact hWear
  · rw [hRead]
    exact (hWear.trans .of_sessions).trans (attachedKept_actOnRead _ n _ _)

theorem isOpen_of_attached {s : State} {p : Port} (h : (s.session p).state = .attached) : s.isOpen p = true := by
  rw [State.isOpen, h]
  rfl

end Sys2Proof.Machine
end

section
/-! PROOFS. The holdings and adoptions counts (R48, R49) as counts over the slots: what the slot of an entry counts for a port. -/

-- The proofs are checked one after the other: run at once, their threads would exceed the memory bound of the check.
set_option Elab.async false

namespace Sys2Proof.Machine

/-- Slot `n` holds an entry with a live hold of port `p` (R8). -/
def State.holdsLive (s : State) (p : Port) (n : Nat) : Bool :=
  match s.entryAt n with
  | some e => s.isOpen p && decide ((e.hold p).map Held.epoch = some (s.session p).epoch)
  | none => false

/-- Slot `n` holds an entry whose live adopter is port `p` (R8). -/
def State.adoptsLive (s : State) (p : Port) (n : Nat) : Bool :=
  match s.entryAt n with
  | some e => s.isOpen p && decide (e.adopter = some ⟨p, (s.session p).epoch⟩)
  | none => false

/-- A port's counts are those of its live holds and adoptions. -/
def PortCounted (s : State) (p : Port) : Prop :=
  (s.session p).holdings = (List.range 1024).countP (s.holdsLive p) ∧ (s.session p).adoptions = (List.range 1024).countP (s.adoptsLive p)

theorem entryAt_of_free {s : State} {n : Nat} (h : s.assoc n = none) : s.entryAt n = none := by
  rw [State.entryAt, h]
  rfl

theorem live_of_counted {s : State} {p : Port} {n : Nat} :
    ((s.assoc n).isSome && s.holdsLive p n) = s.holdsLive p n ∧ ((s.assoc n).isSome && s.adoptsLive p n) = s.adoptsLive p n := by
  cases ha : s.assoc n with
  | none =>
    rw [State.holdsLive, State.adoptsLive, entryAt_of_free ha]
    exact ⟨rfl, rfl⟩
  | some a => exact ⟨rfl, rfl⟩

theorem liveHolds_eq {s : State} (h : SlotsOk s) (p : Port) : s.liveHolds p = (List.range 1024).countP (s.holdsLive p) := by
  refine (countP_index h (s.holdsLive p)).trans ?_
  simp only [live_of_counted.1]

theorem liveAdoptions_eq {s : State} (h : SlotsOk s) (p : Port) : s.liveAdoptions p = (List.range 1024).countP (s.adoptsLive p) := by
  refine (countP_index h (s.adoptsLive p)).trans ?_
  simp only [live_of_counted.2]

theorem countLaw_iff {s : State} (h : SlotsOk s) : CountLaw s ↔ ∀ p, PortCounted s p := by
  refine forall_congr' fun p => ?_
  rw [liveHolds_eq h, liveAdoptions_eq h]
  refine ⟨fun ⟨h1, h2, _⟩ => ⟨h1, h2⟩, fun ⟨h1, h2⟩ => ⟨h1, h2, ?_⟩⟩
  rw [h2]
  exact Nat.le_trans List.countP_le_length (Nat.le_of_eq List.length_range)

theorem holdsLive_of_closed {s : State} {p : Port} (h : s.isOpen p = false) (n : Nat) :
    s.holdsLive p n = false ∧ s.adoptsLive p n = false := by
  unfold State.holdsLive State.adoptsLive
  rw [h]
  cases s.entryAt n <;> exact ⟨rfl, rfl⟩

theorem portCounted_of_closed {s : State} {p : Port} (h : Inv s) (hc : s.isOpen p = false) : PortCounted s p := by
  obtain ⟨h1, h2⟩ := (h.ports p).closed hc
  have hNone := holdsLive_of_closed hc
  refine ⟨h1.trans (Eq.symm (List.countP_eq_zero.2 fun n _ => ?_)), h2.trans (Eq.symm (List.countP_eq_zero.2 fun n _ => ?_))⟩
  · rw [(hNone n).1]
    nofun
  · rw [(hNone n).2]
    nofun

theorem holdsLive_congr {s t : State} {p : Port} {n : Nat} (hOpen : t.isOpen p = s.isOpen p)
    (hEpoch : (t.session p).epoch = (s.session p).epoch) (hEntry : t.entryAt n = s.entryAt n) :
    t.holdsLive p n = s.holdsLive p n ∧ t.adoptsLive p n = s.adoptsLive p n := by
  unfold State.holdsLive State.adoptsLive
  rw [hOpen, hEpoch, hEntry]
  exact ⟨rfl, rfl⟩

/-- The session stands, and the counts have changed as the entry of one slot has. -/
theorem PortCounted.change {s t : State} {p : Port} (h : PortCounted s p) {n : Nat} (hn : n < 1024) (hOpen : t.isOpen p = s.isOpen p)
    (hEpoch : (t.session p).epoch = (s.session p).epoch) (hOther : ∀ m, m ≠ n → t.entryAt m = s.entryAt m)
    (hHold : (t.session p).holdings + (s.holdsLive p n).toNat = (s.session p).holdings + (t.holdsLive p n).toNat)
    (hAdopt : (t.session p).adoptions + (s.adoptsLive p n).toNat = (s.session p).adoptions + (t.adoptsLive p n).toNat) :
    PortCounted t p := by
  have h1 := countP_range_change (P := t.holdsLive p) (Q := s.holdsLive p) hn fun m hm =>
    (holdsLive_congr hOpen hEpoch (hOther m hm)).1
  have h2 := countP_range_change (P := t.adoptsLive p) (Q := s.adoptsLive p) hn fun m hm =>
    (holdsLive_congr hOpen hEpoch (hOther m hm)).2
  rw [← h.1] at h1
  rw [← h.2] at h2
  exact ⟨by omega, by omega⟩

theorem PortCounted.of_eq {s t : State} {p : Port} (h : PortCounted s p) (hSession : t.session p = s.session p)
    (hEntry : ∀ m, t.entryAt m = s.entryAt m) : PortCounted t p := by
  have hLive := fun m => holdsLive_congr (t := t) (s := s) (p := p) (by rw [State.isOpen, hSession]; rfl) (by rw [hSession]) (hEntry m)
  rw [PortCounted, hSession, funext fun m => (hLive m).1, funext fun m => (hLive m).2]
  exact h

theorem entryAt_congr {s t : State} {n : Nat} (ha : t.assoc n = s.assoc n) (hs : t.stored n = s.stored n) :
    t.entryAt n = s.entryAt n := by
  rw [State.entryAt, State.entryAt, ha, hs]

theorem entryAt_of_store {s t : State} (h0 : t.journal.store = s.journal.store := by simp)
    (h1 : t.journal.index = s.journal.index := by simp) (h2 : t.freeCount = s.freeCount := by simp) (n : Nat) :
    t.entryAt n = s.entryAt n :=
  entryAt_congr (by rw [assoc_eq, h1]; rfl) (by rw [stored_eq, h0, h2]; rfl)

/-- A slot that counts for a port is in its count. -/
theorem PortCounted.pos {s : State} {p : Port} (h : PortCounted s p) {n : Nat} (hn : n < 1024) :
    (s.holdsLive p n).toNat ≤ (s.session p).holdings ∧ (s.adoptsLive p n).toNat ≤ (s.session p).adoptions := by
  have hCount : ∀ f : Nat → Bool, (f n).toNat ≤ (List.range 1024).countP f := fun f => by
    cases hf : f n with
    | false => exact Nat.zero_le _
    | true => exact List.countP_pos_iff.2 ⟨n, List.mem_range.2 hn, hf⟩
  rw [h.1, h.2]
  exact ⟨hCount _, hCount _⟩

/-! Counts that fall with an entry (R95, R96, R160) -/

/-- R64: the record of a port once its counts have been lowered. -/
def Session.drained (x : Session) : Session :=
  if x.state = .draining ∧ x.holdings = 0 ∧ x.adoptions = 0 then x.closeTo .detached else x

theorem testDrain_session (s : State) (p q : Port) :
    (s.testDrain p).session q = if q = p then (s.session p).drained else s.session q := by
  unfold State.testDrain Session.drained
  split
  · rw [State.detachGracefully, session_eq, (raise_frame ..).1, setSession_sessions, PerPort.get_set]
    rfl
  · split
    · next h => rw [h]
    · rfl

theorem lowerHoldings_session (s : State) (p q : Port) :
    (s.lowerHoldings p).session q = if q = p then Session.drained { s.session p with holdings := (s.session p).holdings - 1 } else s.session q := by
  rw [State.lowerHoldings, testDrain_session]
  simp only [session_eq, setSession_sessions, PerPort.get_set]
  split
  · simp
  · rfl

theorem lowerAdoptions_session (s : State) (p q : Port) :
    (s.lowerAdoptions p).session q =
      if q = p then Session.drained { s.session p with adoptions := (s.session p).adoptions - 1 } else s.session q := by
  rw [State.lowerAdoptions, testDrain_session]
  simp only [session_eq, setSession_sessions, PerPort.get_set]
  split
  · simp
  · rfl

/-- R25, R64: the record of a port once its holdings count has been lowered. -/
def Session.lessHold (x : Session) : Session := Session.drained { x with holdings := x.holdings - 1 }

/-- R49, R64: the record of a port once its adoptions count has been lowered. -/
def Session.lessAdoption (x : Session) : Session := Session.drained { x with adoptions := x.adoptions - 1 }

/-- Lowering the two counts one after the other, with a drain test each time, is lowering both and then one drain test. -/
theorem drained_lowered (x : Session) (hold adoption : Bool) :
    (let u := if hold then x.lessHold else x
     if adoption then u.lessAdoption else u) =
    (let y : Session := { x with holdings := if hold then x.holdings - 1 else x.holdings
                                 adoptions := if adoption then x.adoptions - 1 else x.adoptions }
     if (hold = true ∨ adoption = true) ∧ x.state = .draining ∧ y.holdings = 0 ∧ y.adoptions = 0 then ended y .detached else y) := by
  cases hold <;> cases adoption <;> simp [Session.lessHold, Session.lessAdoption, Session.drained, Session.closeTo, ended]
  split <;> simp_all

/-- The epoch that a holder summary records for a port's hold. -/
def HolderSummary.holdOf (h : HolderSummary) : Port → Option Epoch
  | .a => h.holdA
  | .b => h.holdB

theorem summaryLive_iff {s : State} {p : Port} {e : Option Epoch} :
    s.summaryLive p e = true ↔ s.isOpen p = true ∧ e = some (s.session p).epoch := by
  cases e with
  | none => simp [State.summaryLive]
  | some x =>
    simp only [State.summaryLive, State.epochLive, Bool.and_eq_true, decide_eq_true_eq, Option.some.injEq]
    exact and_comm

/-- The summary's adopter is port `p`, and live. -/
def State.adoptedIn (s : State) (p : Port) (h : HolderSummary) : Bool :=
  match h.adopter with
  | some a => decide (a.port = p) && s.adopterLive a
  | none => false

theorem adoptedIn_iff {s : State} {p : Port} {h : HolderSummary} :
    s.adoptedIn p h = true ↔ s.isOpen p = true ∧ h.adopter = some ⟨p, (s.session p).epoch⟩ := by
  unfold State.adoptedIn
  cases h.adopter with
  | none => simp
  | some a =>
    obtain ⟨q, e⟩ := a
    simp only [State.adopterLive, State.epochLive, Bool.and_eq_true, decide_eq_true_eq, Option.some.injEq, Adopter.mk.injEq]
    constructor
    · rintro ⟨rfl, h1, h2⟩
      exact ⟨h2, rfl, h1⟩
    · rintro ⟨h1, rfl, rfl⟩
      exact ⟨rfl, rfl, h1⟩

theorem lowerHoldingsIf_same (c : Bool) (t : State) (p : Port) :
    (if c = true then t.lowerHoldings p else t).session p = if c = true then (t.session p).lessHold else t.session p := by
  cases c
  · rfl
  · exact (lowerHoldings_session t p p).trans (if_pos rfl)

theorem lowerHoldingsIf_other (c : Bool) (t : State) {p q : Port} (h : q ≠ p) :
    (if c = true then t.lowerHoldings p else t).session q = t.session q := by
  cases c
  · rfl
  · exact (lowerHoldings_session t p q).trans (if_neg h)

theorem lowerHoldingsIf_both (c d : Bool) (t : State) (p : Port) :
    (if d = true then (if c = true then t.lowerHoldings .a else t).lowerHoldings .b else if c = true then t.lowerHoldings .a else t).session p =
      if (match p with | .a => c | .b => d) = true then (t.session p).lessHold else t.session p := by
  cases p
  · rw [lowerHoldingsIf_other d _ (by decide), lowerHoldingsIf_same]
  · rw [lowerHoldingsIf_same, lowerHoldingsIf_other c _ (by decide)]

theorem lowerHolders_steps (s : State) (p : Port) (h : HolderSummary) :
    (s.lowerHolders h).session p =
      (let u := if s.summaryLive p (h.holdOf p) then (s.session p).lessHold else s.session p
       if s.adoptedIn p h then u.lessAdoption else u) := by
  have hHold : (match p with | .a => s.summaryLive .a h.holdA | .b => s.summaryLive .b h.holdB) = s.summaryLive p (h.holdOf p) := by
    cases p <;> rfl
  have hBoth := lowerHoldingsIf_both (s.summaryLive .a h.holdA) (s.summaryLive .b h.holdB) s p
  rw [hHold] at hBoth
  unfold State.lowerHolders
  dsimp only
  cases hAdopter : h.adopter with
  | none =>
    have hIn : ¬s.adoptedIn p h = true := by simp [State.adoptedIn, hAdopter]
    rw [if_neg hIn]
    exact hBoth
  | some a =>
    have hIn : s.adoptedIn p h = true ↔ a.port = p ∧ s.adopterLive a = true := by simp [State.adoptedIn, hAdopter]
    dsimp only
    by_cases hLive : s.adopterLive a = true
    · rw [if_pos hLive, lowerAdoptions_session]
      by_cases hp : a.port = p
      · rw [if_pos hp.symm, if_pos (hIn.2 ⟨hp, hLive⟩), hp, hBoth]
        rfl
      · rw [if_neg (Ne.symm hp), if_neg fun h => hp (hIn.1 h).1, hBoth]
    · rw [if_neg hLive, if_neg fun h => hLive (hIn.1 h).2, hBoth]

theorem lowerHolders_session (s : State) (p : Port) (h : HolderSummary) : (s.lowerHolders h).session p = s.lowered p h := by
  rw [lowerHolders_steps, drained_lowered]
  unfold State.lowered
  simp only [summaryLive_iff, adoptedIn_iff]
  cases p <;> rfl

end Sys2Proof.Machine
end

section
/-! PROOFS. What an operation within an event keeps beside the laws that hold at every point (`Sound`): that the block in progress is
as the tests of R166 and R169 leave it, and that the holdings and adoptions counts are those of the live entries (R49). -/

-- The proofs are checked one after the other: run at once, their threads would exceed the memory bound of the check.
set_option Elab.async false

namespace Sys2Proof.Machine

/-- `KeptIf`, with the retirement's tests and the counts kept as well. -/
structure SoundIf (I : Prop) (s t : State) : Prop extends KeptIf I s t where
  settled : I → Inv s → Settled s → Settled t
  counted : I → Inv s → (∀ p, PortCounted s p) → ∀ p, PortCounted t p

/-- `Kept`, with the retirement's tests and the counts kept as well. -/
structure Sound (s t : State) : Prop extends Kept s t where
  settled : Inv s → Settled s → Settled t
  counted : Inv s → (∀ p, PortCounted s p) → ∀ p, PortCounted t p

theorem Sound.refl (s : State) : Sound s s := ⟨.refl s, fun _ h => h, fun _ h => h⟩

theorem Sound.trans {s t u : State} (h : Sound s t) (h' : Sound t u) : Sound s u :=
  ⟨h.toKept.trans h'.toKept, fun hi hs => h'.settled (h.inv hi) (h.settled hi hs), fun hi hc => h'.counted (h.inv hi) (h.counted hi hc)⟩

theorem SoundIf.trans {I : Prop} {s t u : State} (h : SoundIf I s t) (h' : SoundIf I t u) : SoundIf I s u :=
  ⟨h.toKeptIf.trans h'.toKeptIf, fun hI hi hs => h'.settled hI (h.inv hI hi) (h.settled hI hi hs),
    fun hI hi hc => h'.counted hI (h.inv hI hi) (h.counted hI hi hc)⟩

theorem Sound.soundIf {I : Prop} {s t : State} (h : Sound s t) : SoundIf I s t :=
  ⟨h.toKept.keptIf, fun _ => h.settled, fun _ => h.counted⟩

theorem SoundIf.sound {s t : State} (h : SoundIf (Inv s) s t) : Sound s t :=
  ⟨h.toKeptIf.kept, fun hi => h.settled hi hi, fun hi => h.counted hi hi⟩

theorem Sound.thenIf {s t u : State} (h : Sound s t) (h' : SoundIf (Inv s) t u) : Sound s u := (h.soundIf.trans h').sound

/-! One part at a time -/

/-- The tests' outcome rests on the engine state, the blocks' states, the reserve and the pool. -/
theorem Settled.of_states {s t : State} (h : Settled s) (hState : ∀ b, (t.block b).state = (s.block b).state)
    (h1 : t.engine.state = s.engine.state := by simp) (h2 : t.integrity.reserve = s.integrity.reserve := by simp)
    (h3 : t.journal.pool = s.journal.pool := by simp) : Settled t := by
  intro hReady b hb
  rw [h1] at hReady
  rw [inProgress_congr (s := s) fun c => by rw [hState c]] at hb
  rw [h2, hState b, State.pooled, h3]
  exact h hReady b hb

theorem Settled.of_eq {s t : State} (h : Settled s) (h0 : t.integrity.blocks = s.integrity.blocks := by simp)
    (h1 : t.engine.state = s.engine.state := by simp) (h2 : t.integrity.reserve = s.integrity.reserve := by simp)
    (h3 : t.journal.pool = s.journal.pool := by simp) : Settled t :=
  h.of_states (fun b => by simp only [block_eq, Integrity.block, h0]) h1 h2 h3

theorem PortCounted.of_parts {s t : State} {p : Port} (h : PortCounted s p) (h0 : t.sessions = s.sessions := by simp)
    (h1 : t.journal.store = s.journal.store := by simp) (h2 : t.journal.index = s.journal.index := by simp)
    (h3 : t.freeCount = s.freeCount := by simp) : PortCounted t p :=
  h.of_eq (by rw [session_eq, h0]; rfl) (entryAt_of_store h1 h2 h3)

/-- What changes neither a session, nor an entry, nor what the tests of a retirement rest on. -/
theorem KeptIf.soundIf {I : Prop} {s t : State} (h : KeptIf I s t) (h0 : t.integrity.blocks = s.integrity.blocks := by simp)
    (h1 : t.engine.state = s.engine.state := by simp) (h2 : t.integrity.reserve = s.integrity.reserve := by simp)
    (h3 : t.journal.pool = s.journal.pool := by simp) (h4 : t.sessions = s.sessions := by simp)
    (h5 : t.journal.store = s.journal.store := by simp) (h6 : t.journal.index = s.journal.index := by simp)
    (h7 : t.freeCount = s.freeCount := by simp) : SoundIf I s t :=
  ⟨h, fun _ _ hs => hs.of_eq h0 h1 h2 h3, fun _ _ hc p => (hc p).of_parts h4 h5 h6 h7⟩

theorem Kept.sound {s t : State} (h : Kept s t) (h0 : t.integrity.blocks = s.integrity.blocks := by simp)
    (h1 : t.engine.state = s.engine.state := by simp) (h2 : t.integrity.reserve = s.integrity.reserve := by simp)
    (h3 : t.journal.pool = s.journal.pool := by simp) (h4 : t.sessions = s.sessions := by simp)
    (h5 : t.journal.store = s.journal.store := by simp) (h6 : t.journal.index = s.journal.index := by simp)
    (h7 : t.freeCount = s.freeCount := by simp) : Sound s t :=
  ⟨h, fun _ hs => hs.of_eq h0 h1 h2 h3, fun _ hc p => (hc p).of_parts h4 h5 h6 h7⟩

/-- What changes the record of one session, whose counts, openness and epoch stand. -/
theorem Kept.sound_of_session {s t : State} (h : Kept s t)
    (hSession : ∀ q, t.isOpen q = s.isOpen q ∧ (t.session q).epoch = (s.session q).epoch ∧
      (t.session q).holdings = (s.session q).holdings ∧ (t.session q).adoptions = (s.session q).adoptions)
    (h0 : t.integrity.blocks = s.integrity.blocks := by simp)
    (h1 : t.engine.state = s.engine.state := by simp) (h2 : t.integrity.reserve = s.integrity.reserve := by simp)
    (h3 : t.journal.pool = s.journal.pool := by simp)
    (h5 : t.journal.store = s.journal.store := by simp) (h6 : t.journal.index = s.journal.index := by simp)
    (h7 : t.freeCount = s.freeCount := by simp) : Sound s t := by
  refine ⟨h, fun _ hs => hs.of_eq h0 h1 h2 h3, fun _ hc p => ?_⟩
  obtain ⟨hOpen, hEpoch, hHold, hAdopt⟩ := hSession p
  have hLive := fun m => holdsLive_congr (p := p) hOpen hEpoch (entryAt_of_store h5 h6 h7 m)
  rw [PortCounted, hHold, hAdopt, funext fun m => (hLive m).1, funext fun m => (hLive m).2]
  exact hc p

/-- What closes one session. -/
theorem Kept.sound_of_closed {s t : State} (h : Kept s t) {p : Port} (hClosed : t.isOpen p = false)
    (hOther : ∀ q, q ≠ p → t.session q = s.session q)
    (h0 : t.integrity.blocks = s.integrity.blocks := by simp)
    (h1 : t.engine.state = s.engine.state := by simp) (h2 : t.integrity.reserve = s.integrity.reserve := by simp)
    (h3 : t.journal.pool = s.journal.pool := by simp)
    (h5 : t.journal.store = s.journal.store := by simp) (h6 : t.journal.index = s.journal.index := by simp)
    (h7 : t.freeCount = s.freeCount := by simp) : Sound s t := by
  refine ⟨h, fun _ hs => hs.of_eq h0 h1 h2 h3, fun hi hc q => ?_⟩
  by_cases hq : q = p
  · subst hq
    exact portCounted_of_closed (h.inv hi) hClosed
  · exact (hc q).of_eq (hOther q hq) (entryAt_of_store h5 h6 h7)

/-! Notices, faults, session ends -/

theorem sound_raise (s : State) (p : Port) (k : NoticeKind) (w : Option Word) : Sound s (s.raise p k w) := (kept_raise s p k w).sound
theorem sound_raiseBoth (s : State) (k : NoticeKind) (w : Option Word) : Sound s (s.raiseBoth k w) := (kept_raiseBoth s k w).sound
theorem sound_finish (s : State) : Sound s s.finish := (kept_finish s).sound
theorem sound_capture (s : State) (f : FaultRecord) : Sound s (s.capture f) := (kept_capture s f).sound

theorem closed_setSession (s : State) (p : Port) {x : Session} (h : x.state.isOpen = false) : (s.setSession p x).isOpen p = false := by
  simpa using h

theorem sound_closeTo (s : State) (p : Port) {st : SessionState} (h : st.isOpen = false) :
    Sound s (s.setSession p ((s.session p).closeTo st)) :=
  (kept_closeTo s p h).sound_of_closed (closed_setSession s p h) fun q hq => by simp [PerPort.get_set, hq]

theorem sound_endSession (s : State) (p : Port) {st : SessionState} (h : st.isOpen = false) : Sound s (s.endSession p st) :=
  (sound_closeTo s p h).trans ((kept_markSweep _).sound)

theorem sound_leaveTo (s : State) (p : Port) {st : SessionState} (h : st.isOpen = false) : Sound s (s.leaveTo p st) := by
  unfold State.leaveTo
  split
  · exact sound_endSession s p h
  · exact sound_closeTo s p h

theorem sound_detachGracefully (s : State) (p : Port) : Sound s (s.detachGracefully p) :=
  (sound_closeTo s p rfl).trans (sound_raise ..)

theorem sound_fencePort (s : State) (p : Port) (cause : Word) (kind : FaultKind) : Sound s (s.fencePort p cause kind) :=
  ((sound_leaveTo s p rfl).trans (sound_raise ..)).trans (sound_capture ..)

/-! The free pool and block retirement -/

/-- What ends in the tests for the block in progress. -/
theorem KeptIf.soundIf_settle {I : Prop} {s t : State} (h : KeptIf I s t) (hc : I → Inv s → (∀ p, PortCounted s p) → ∀ p, PortCounted t p) :
    SoundIf I s t.settle :=
  ⟨h.trans (kept_settle t).keptIf, fun hI hi _ => settled_settle (h.inv hI hi).blocks.retirement, fun hI hi hs p => (hc hI hi hs p).of_parts⟩

theorem sound_settle (s : State) : Sound s s.settle :=
  ((Kept.refl s).keptIf.soundIf_settle (I := Inv s) fun _ _ h => h).sound

theorem sound_enterIfDue (s : State) : Sound s s.enterIfDue := by
  unfold State.enterIfDue
  split
  · exact sound_settle s
  · exact .refl s

theorem soundIf_queueBlock {I : Prop} {s : State} {b : Nat} (hb : I → Inv s → b < 16) : SoundIf I s (s.queueBlock b) :=
  (keptIf_queueBlock hb).soundIf

theorem sound_setPointer (s : State) (pl : Place) (b : Bool) : Sound s (s.setArbiter { s.arbiter with pointer := pl, lastWasScrub := b }) :=
  (Kept.setPointer s pl b).sound

theorem sound_beginGrant (s : State) (pl : Place) : Sound s (s.beginGrant pl) := (sound_setPointer s pl false).trans (sound_enterIfDue _)

theorem sound_grantStart (s : State) (p : Port) : Sound s (s.grantStart p) :=
  ((Kept.setNotices s _).sound).trans (sound_beginGrant _ _)

/-! The slot read -/

theorem sound_withBucket {s : State} {b v : Nat} (hv : Inv s → v ≤ 15) : Sound s (s.withBucket b v) :=
  ⟨kept_withBucket hv, fun _ hs => hs.of_states (withBucket_state s b v) rfl rfl rfl, fun _ hc p => (hc p).of_parts rfl rfl rfl rfl⟩

theorem sound_captureIf (c : Prop) [Decidable c] (s : State) (f : FaultRecord) : Sound s (if c then s.capture f else s) := by
  split
  · exact sound_capture s f
  · exact .refl s

theorem soundIf_judgeRead {I : Prop} {s : State} {n : Nat} (hn : I → n < 1024) (o : ReadOutcome) :
    SoundIf I s (s.judgeRead n o) := by
  have hFaults := ((sound_withBucket (s := s) (b := blockOf n) fun hi =>
      readBucket_le (hi.blocks.retirement.1 (blockOf n)) hi.bucketThreshold o).trans (sound_captureIf (o.vote = .oneOff) _
      { kind := .keyCorrected, slot := some n, block := some (blockOf n), key := s.keyAt n })).trans
    (sound_captureIf (o.ecc = .corrected ∧ o.vote.lost = false) _
      { kind := .bodyCorrected, slot := some n, block := some (blockOf n), key := s.keyAt n })
  unfold State.judgeRead
  dsimp only
  split
  · exact (hFaults.soundIf.trans (soundIf_queueBlock fun hI _ => blockOf_lt (hn hI))).trans (sound_enterIfDue _).soundIf
  · exact hFaults.soundIf

/-- A slot's storage is written, a live slot's with the body it had. -/
theorem soundIf_putSlot {I : Prop} (s : State) {n : Nat} {x : StoredSlot} (hn : I → Inv s → n < 1024)
    (hBody : I → Inv s → s.assoc n ≠ none → x.body = (s.stored n).body) : SoundIf I s (s.putSlot n x) := by
  refine ⟨keptIf_putSlot s hn hBody, fun _ _ hs => hs.of_eq, fun hI hi hc p => (hc p).of_eq rfl fun m => ?_⟩
  by_cases hm : m = n
  · subst hm
    cases ha : s.assoc m with
    | none => rw [entryAt_of_free ha, entryAt_of_free (s := s.putSlot m x) ha]
    | some a =>
      have hEq : ((s.putSlot m x).stored m).body = (s.stored m).body := by
        rw [putSlot_stored_same]
        exact hBody hI hi (by rw [ha]; nofun)
      have ha' : (s.putSlot m x).assoc m = some a := ha
      rw [State.entryAt, State.entryAt, hEq, ha, ha']
  · exact entryAt_congr rfl (putSlot_stored_other s x hm)

theorem soundIf_freeWrite {I : Prop} (s : State) {n : Nat} (hn : I → Inv s → n < 1024) (hFree : I → Inv s → s.assoc n = none) :
    SoundIf I s (s.freeWrite n) := soundIf_putSlot s hn fun hI hi hne => absurd (hFree hI hi) hne

theorem soundIf_rewrite {I : Prop} {s : State} {n : Nat} (hn : I → n < 1024) : SoundIf I s (s.rewrite n) := by
  unfold State.rewrite
  exact soundIf_putSlot s (fun hI _ => hn hI) fun _ _ _ => rfl

theorem soundIf_loseFreeSlot {I : Prop} {s : State} {n : Nat} (hn : I → n < 1024) (hFree : s.assoc n = none) :
    SoundIf I s (s.loseFreeSlot n) := by
  have hWrite := soundIf_freeWrite s (fun hI _ => hn hI) fun _ _ => hFree
  unfold State.loseFreeSlot
  dsimp only
  split
  · refine hWrite.trans (.trans (KeptIf.soundIf_settle ?_ fun _ _ hc p => (hc p).of_parts) (sound_capture ..).soundIf)
    exact ((kept_withdraw _ List.filter_sublist).trans (kept_lowWaterTest _)).keptIf
  · exact hWrite.trans (sound_capture ..).soundIf

theorem holdsLive_of_entry {s : State} {p : Port} {n : Nat} {e : EntryBody} (h : s.entryAt n = some e) :
    s.holdsLive p n = (s.isOpen p && decide ((e.hold p).map Held.epoch = some (s.session p).epoch)) ∧
    s.adoptsLive p n = (s.isOpen p && decide (e.adopter = some ⟨p, (s.session p).epoch⟩)) := by
  simp only [State.holdsLive, State.adoptsLive, h, and_self]

/-- Slot `n` counts for port `p` no more: its entry is gone, or names no holder and no adopter. -/
def Uncounted (s : State) (p : Port) (n : Nat) : Prop := s.holdsLive p n = false ∧ s.adoptsLive p n = false

theorem uncounted_of_free {s : State} {n : Nat} (h : s.assoc n = none) (p : Port) : Uncounted s p n := by
  simp only [Uncounted, State.holdsLive, State.adoptsLive, entryAt_of_free h, and_self]

theorem uncounted_of_entry {s : State} {n : Nat} {e : EntryBody} (h : s.entryAt n = some e) {p : Port} (hHold : e.hold p = none)
    (hAdopter : e.adopter = none) : Uncounted s p n := by
  obtain ⟨h1, h2⟩ := holdsLive_of_entry (p := p) h
  rw [Uncounted, h1, h2, hHold, hAdopter]
  simp

/-- A port's counts once an entry counts for it no more: lowered by what the entry counted, or the session closed (R64, R95). -/
theorem PortCounted.lowered_entry {s t : State} {p : Port} (h : PortCounted s p) (ht : Inv t) {n : Nat} (hn : n < 1024)
    (hOther : ∀ m, m ≠ n → t.entryAt m = s.entryAt m) (hGone : Uncounted t p n)
    (hSession : t.isOpen p = false ∨ t.session p = { s.session p with
      holdings := (s.session p).holdings - (s.holdsLive p n).toNat
      adoptions := (s.session p).adoptions - (s.adoptsLive p n).toNat }) : PortCounted t p := by
  rcases hSession with hClosed | hSession
  · exact portCounted_of_closed ht hClosed
  · obtain ⟨hHold, hAdopt⟩ := h.pos hn
    refine h.change hn (by rw [State.isOpen, hSession]; rfl) (by rw [hSession]) hOther ?_ ?_
    · rw [hSession, hGone.1]
      simp only [Bool.toNat_false]
      omega
    · rw [hSession, hGone.2]
      simp only [Bool.toNat_false]
      omega

/-- The summary of a live entry names for a port what the entry counts for it. -/
theorem summary_counts {s : State} {n : Nat} {e : EntryBody} (he : s.entryAt n = some e) (p : Port) :
    s.summaryLive p (e.summary.holdOf p) = s.holdsLive p n ∧ s.adoptedIn p e.summary = s.adoptsLive p n := by
  obtain ⟨h1, h2⟩ := holdsLive_of_entry (p := p) he
  rw [h1, h2]
  refine ⟨Bool.eq_iff_iff.2 ?_, Bool.eq_iff_iff.2 ?_⟩
  · rw [summaryLive_iff, Bool.and_eq_true, decide_eq_true_iff]
    cases p <;> rfl
  · rw [adoptedIn_iff, Bool.and_eq_true, decide_eq_true_iff]
    rfl

theorem ended_or_same (c : Prop) [Decidable c] (y : Session) :
    (if c then ended y .detached else y).state.isOpen = false ∨ (if c then ended y .detached else y) = y := by
  split
  · exact .inl rfl
  · exact .inr rfl

theorem lowerHolders_of_entry {s : State} {n : Nat} {e : EntryBody} (he : s.entryAt n = some e) (p : Port) :
    ((s.lowerHolders e.summary).session p).state.isOpen = false ∨ (s.lowerHolders e.summary).session p = { s.session p with
      holdings := (s.session p).holdings - (s.holdsLive p n).toNat
      adoptions := (s.session p).adoptions - (s.adoptsLive p n).toNat } := by
  obtain ⟨hHold, hAdopt⟩ := summary_counts he p
  rw [lowerHolders_steps, drained_lowered, hHold, hAdopt]
  refine (ended_or_same _ _).imp_right fun h => h.trans ?_
  cases s.holdsLive p n <;> cases s.adoptsLive p n <;> rfl

/-- An entry whose holders' counts have been lowered counts no more. -/
theorem counted_lowerHolders {s t : State} {n : Nat} {a : Association} (hi : Inv s) (ht : Inv t) (ha : s.assoc n = some a)
    (hSessions : t.sessions = (s.lowerHolders a.summary).sessions) (hOther : ∀ m, m ≠ n → t.assoc m = s.assoc m ∧ t.stored m = s.stored m)
    (hGone : ∀ p, Uncounted t p n) (hc : ∀ p, PortCounted s p) (p : Port) : PortCounted t p := by
  obtain ⟨e, he, hSummary⟩ := hi.journal.exists_entry ha
  have hEq : t.session p = (s.lowerHolders e.summary).session p := by rw [session_eq, hSessions, hSummary]; rfl
  refine (hc p).lowered_entry ht (hi.lt_of_lives he) (fun m hm => entryAt_congr (hOther m hm).1 (hOther m hm).2) (hGone p) ?_
  rw [State.isOpen, hEq]
  exact lowerHolders_of_entry he.2 p

theorem loseEntry_sessions (s : State) (n : Nat) (a : Association) : (s.loseEntry n a).sessions = (s.lowerHolders a.summary).sessions := by
  rw [loseEntry_eq]
  simp [strike_frame]

theorem loseEntry_assoc {s : State} (hw : s.journal.index.wf = true) {n : Nat} (a : Association) : (s.loseEntry n a).assoc n = none := by
  have hIndex : (s.loseEntry n a).journal.index = SlotMap.erase n s.journal.index := by
    rw [loseEntry_eq]
    simp [strike_frame]
  rw [assoc_erase hw hIndex, if_pos rfl]

theorem sound_loseEntry {s : State} {n : Nat} {a : Association} (ha : s.assoc n = some a) : Sound s (s.loseEntry n a) := by
  have hKept : Kept s (s.loseEntry n a) := kept_loseEntry fun hi => hi.journal.lives ha
  refine ⟨hKept, fun hi _ => ?_, fun hi => ?_⟩
  · have hStruck := (keptIf_strike (I := True) (n := n) (k := a.key) fun _ _ => ?_).inv trivial ((kept_lowerHolders s a.summary).inv hi)
    · rw [loseEntry_eq]
      exact settled_settle (hStruck.blocks.retirement.of_eq)
    · obtain ⟨e, he⟩ := hi.journal.lives ha
      exact ⟨e, (lowerHolders_lives ..).2 he⟩
  · have hLeaves := loseEntry_leaves (n := n) (a := a) hi.journal.indexWf
    exact counted_lowerHolders hi (hKept.inv hi) ha (loseEntry_sessions s n a) hLeaves.other
      fun p => uncounted_of_free (loseEntry_assoc hi.journal.indexWf a) p

theorem damageEntry_sessions (s : State) (n : Nat) (a : Association) : (s.damageEntry n a).sessions = (s.lowerHolders a.summary).sessions := by
  unfold State.damageEntry
  simp

theorem damageEntry_entry {s : State} {n : Nat} {b : Association} (hb : s.assoc n = some b) (a : Association) :
    (s.damageEntry n a).entryAt n = some damagedBody := by
  let t := (s.lowerHolders a.summary).keyWrite n (.key a.key)
  have hEntry : (t.bodyWrite n damagedBody).entryAt n = some damagedBody := by
    refine entryAt_eq_some_iff.2 ⟨?_, by rw [(bodyWrite_stored t n damagedBody).1]⟩
    have hAssoc : t.assoc n = s.assoc n := by simp [t]
    rw [(bodyWrite_assoc t n damagedBody).1, hAssoc, hb]
    nofun
  refine (entryAt_of_store ?_ ?_ ?_ n).trans hEntry <;> simp [State.damageEntry, t]

theorem sound_damageEntry {s : State} {n : Nat} {a : Association} (ha : s.assoc n = some a) : Sound s (s.damageEntry n a) := by
  have hKept : Kept s (s.damageEntry n a) := kept_damageEntry fun hi => hi.journal.lives ha
  refine ⟨hKept, fun _ hs => ?_, fun hi => ?_⟩
  · unfold State.damageEntry
    exact hs.of_eq
  have hLeaves := damageEntry_leaves (n := n) (a := a) ha
  exact counted_lowerHolders hi (hKept.inv hi) ha (damageEntry_sessions s n a) hLeaves.other fun p =>
    uncounted_of_entry (damageEntry_entry ha a) (by cases p <;> rfl) rfl

theorem soundIf_actOnRead {I : Prop} {s : State} {n : Nat} (hn : I → n < 1024) (o : ReadOutcome) :
    SoundIf I s (s.actOnRead n (s.assoc n) o) := by
  cases ha : s.assoc n with
  | none =>
    have hWrite : SoundIf I s (s.freeWrite n) := soundIf_freeWrite s (fun hI _ => hn hI) fun _ _ => ha
    simp only [State.actOnRead]
    split
    · exact soundIf_loseFreeSlot hn ha
    split
    · exact hWrite.trans (sound_capture ..).soundIf
    · exact hWrite
    · split
      · exact hWrite
      · exact (Sound.refl s).soundIf
  | some a =>
    simp only [State.actOnRead]
    split
    · exact (sound_loseEntry ha).soundIf
    split
    · exact (sound_damageEntry ha).soundIf
    · exact soundIf_rewrite hn
    · split
      · exact soundIf_rewrite hn
      · exact (Sound.refl s).soundIf

theorem sound_readRaw {s : State} {n : Nat} (hn : Inv s → n < 1024) (w : SlotWear) : Sound s (s.readRaw n w) := by
  obtain ⟨t, ht, hRead⟩ := readRaw_eq s n w
  have hWear : SoundIf (Inv s) s t := by
    rcases ht with rfl | rfl
    · exact (Sound.refl _).soundIf
    · exact soundIf_putSlot s (fun hi _ => hn hi) fun _ _ _ => rfl
  rcases hRead with hRead | hRead
  · rw [hRead]
    exact hWear.sound
  · rw [hRead]
    exact ((hWear.trans (soundIf_judgeRead hn _)).trans (soundIf_actOnRead hn _)).sound

/-- Conversion takes away dead holds and dead adopters, which count for no port (R76, R77). -/
theorem converted_counts (s : State) (e : EntryBody) (p : Port) :
    (s.isOpen p && decide (((s.converted e).hold p).map Held.epoch = some (s.session p).epoch)) =
      (s.isOpen p && decide ((e.hold p).map Held.epoch = some (s.session p).epoch)) ∧
    (s.isOpen p && decide ((s.converted e).adopter = some ⟨p, (s.session p).epoch⟩)) =
      (s.isOpen p && decide (e.adopter = some ⟨p, (s.session p).epoch⟩)) := by
  rcases converted_cases s e with h | ⟨hs, -, h⟩ | ⟨x, -, hx, hDead, h⟩
  · rw [h]
    exact ⟨rfl, rfl⟩
  · refine ⟨?_, by rw [h]⟩
    rw [converted_hold s hs]
    unfold State.convertHold
    split
    · next hDead =>
      cases hp : e.hold p with
      | none => rfl
      | some y =>
        rw [hp] at hDead
        have hNot : ¬(s.isOpen p = true ∧ y.epoch = (s.session p).epoch) := fun ⟨h1, h2⟩ => by
          simp [State.holdDead, State.epochLive, h1, h2, -isOpen_eq, -session_eq] at hDead
        refine Bool.eq_iff_iff.2 ?_
        rw [Bool.and_eq_true, Bool.and_eq_true, decide_eq_true_iff, decide_eq_true_iff]
        exact ⟨fun h => absurd h.2 nofun, fun h => absurd ⟨h.1, Option.some.inj h.2⟩ hNot⟩
    · rfl
  · refine ⟨by rw [h]; cases p <;> rfl, ?_⟩
    rw [h, hx]
    refine Bool.eq_iff_iff.2 ?_
    rw [Bool.and_eq_true, Bool.and_eq_true, decide_eq_true_iff, decide_eq_true_iff]
    refine ⟨fun h => absurd h.2 nofun, fun ⟨h1, h2⟩ => ?_⟩
    obtain rfl := Option.some.inj h2
    simp [State.adopterLive, State.epochLive, -isOpen_eq, -session_eq, h1] at hDead

/-- The session stands, and the entry of one slot counts as it did. -/
theorem PortCounted.of_entry {s t : State} {p : Port} (h : PortCounted s p) {n : Nat} (hSession : t.session p = s.session p)
    (hOther : ∀ m, m ≠ n → t.entryAt m = s.entryAt m) (hHere : t.holdsLive p n = s.holdsLive p n ∧ t.adoptsLive p n = s.adoptsLive p n) :
    PortCounted t p := by
  have hOpen : t.isOpen p = s.isOpen p := by rw [State.isOpen, hSession]; rfl
  have hEpoch : (t.session p).epoch = (s.session p).epoch := by rw [hSession]
  have hLive : ∀ m, t.holdsLive p m = s.holdsLive p m ∧ t.adoptsLive p m = s.adoptsLive p m := fun m => by
    by_cases hm : m = n
    · exact hm ▸ hHere
    · exact holdsLive_congr hOpen hEpoch (hOther m hm)
  rw [PortCounted, hSession, funext fun m => (hLive m).1, funext fun m => (hLive m).2]
  exact h

theorem sound_convertOnTouch (s : State) (n : Nat) : Sound s (s.convertOnTouch n) := by
  refine ⟨kept_convertOnTouch s n, fun _ hs => hs.of_eq, fun hi hc p => ?_⟩
  have hOther : ∀ m, m ≠ n → (s.convertOnTouch n).entryAt m = s.entryAt m := fun m hm =>
    entryAt_congr (convertOnTouch_other s hm).1 (convertOnTouch_other s hm).2
  have hSession : ∀ q, (s.convertOnTouch n).session q = s.session q := fun q => by simp
  cases ha : s.assoc n with
  | none => rw [convertOnTouch_of_free ha]; exact hc p
  | some a =>
    obtain ⟨e, he⟩ := hi.journal.lives ha
    refine (hc p).of_entry (hSession p) hOther ?_
    obtain ⟨h1, h2⟩ := holdsLive_of_entry (p := p) he.2
    obtain ⟨h3, h4⟩ := holdsLive_of_entry (p := p) (convertOnTouch_lives he).2
    rw [h1, h2, h3, h4, State.isOpen, hSession]
    exact converted_counts s e p

theorem sound_readSlot {s : State} {n : Nat} (hn : Inv s → n < 1024) (w : SlotWear) : Sound s (s.readSlot n w) :=
  (sound_readRaw hn w).trans (sound_convertOnTouch _ n)

end Sys2Proof.Machine
end

section
/-! PROOFS. What the requests of a controller keep. -/

-- The proofs are checked one after the other: run at once, their threads would exceed the memory bound of the check.
set_option Elab.async false

namespace Sys2Proof.Machine

/-! Session requests -/

theorem nextEpoch_ne_zero (e : Epoch) : nextEpoch e ≠ 0#16 := by
  unfold nextEpoch
  split
  · decide
  · next h => bv_omega

theorem kept_openSession {s : State} {p : Port} (hEngine : s.engine.state ≠ .initializing) (hFence : (s.session p).state ≠ .fenced) :
    Kept s (s.openSession p) := by
  refine ((Kept.trans ?_ (.setLink ?_)).trans (.setNotices _ _)).trans (kept_raise ..)
  · refine .setSession fun _ hp => ⟨nofun, rfl, ⟨nofun, nofun⟩, fun _ => nextEpoch_ne_zero _, Nat.zero_le _,
      fun hi => absurd hi hEngine, ⟨fun hf => absurd (hp.fence.1 hf) hFence, nofun⟩⟩
  · exact fun h => h

theorem kept_endIfOpen (s : State) (p : Port) : Kept s (if s.isOpen p then s.endSession p .detached else s) := by
  split
  · exact kept_endSession s p rfl
  · exact .refl s

theorem kept_runAttach (p : Port) (i : Word) (s : State) : Kept s (State.runAttach p i s).2 := by
  unfold State.runAttach
  split
  · exact .refl s
  · next hEngine =>
    split
    · exact .refl s
    · next hFence =>
      refine (kept_endIfOpen s p).trans (kept_openSession ?_ ?_)
      · split
        · simpa using hEngine
        · exact hEngine
      · split
        · simp [State.endSession, State.markSweep, Session.closeTo]
        · exact hFence

theorem kept_startDrain {s : State} {p : Port} (h : (s.session p).state = .attached) (n : Nat) :
    Kept s (s.setSession p { s.session p with state := .draining, drainTimer := some n }) := by
  refine .setSession fun _ hp => ?_
  have hOpen : (s.sessions.get p).state.isOpen = true := isOpen_of_attached h
  refine ⟨nofun, hp.lapse.trans hOpen, iff_of_true rfl rfl, fun _ => hp.epoch hOpen, hp.holdings,
    fun hi => absurd ((hp.starting hi).symm.trans hOpen) nofun, ⟨fun hf => ?_, nofun⟩⟩
  have hs := hp.fence.1 hf
  rw [session_eq, hs] at h
  cases h

theorem sound_startDrain {s : State} {p : Port} (h : (s.session p).state = .attached) (n : Nat) :
    Sound s (s.setSession p { s.session p with state := .draining, drainTimer := some n }) := by
  refine (kept_startDrain h n).sound_of_session fun q => ?_
  by_cases hq : q = p
  · subst hq
    have hState : (s.sessions.get q).state = .attached := h
    simp [hState, SessionState.isOpen]
  · simp [PerPort.get_set, hq]

theorem sound_runDetachGraceful (p : Port) (s : State) : Sound s (State.runDetachGraceful p s).2 := by
  unfold State.runDetachGraceful
  dsimp only
  split
  · next h =>
    split
    · exact sound_detachGracefully s p
    · exact sound_startDrain h _
  · exact .refl s

theorem sound_runDetachAbrupt (p : Port) (s : State) : Sound s (State.runDetachAbrupt p s).2 :=
  (sound_endSession s p rfl).trans (sound_raise ..)

theorem kept_setMark (s : State) (p : Port) (b : Bool) : Kept s (s.setSession p { s.session p with lapseMark := b }) :=
  .setSession fun _ hp => ⟨hp.closed, hp.lapse, hp.drain, hp.epoch, hp.holdings, hp.starting, hp.fence⟩

theorem sound_setMark (s : State) (p : Port) (b : Bool) : Sound s (s.setSession p { s.session p with lapseMark := b }) := by
  refine (kept_setMark s p b).sound_of_session fun q => ?_
  by_cases hq : q = p
  · subst hq
    simp
  · simp [PerPort.get_set, hq]

theorem sound_runFencePeer (p : Port) (s : State) : Sound s (State.runFencePeer p s).2 := by
  unfold State.runFencePeer
  split
  · exact .refl s
  split
  · exact .refl s
  split
  · exact .refl s
  split
  · exact .refl s
  · exact sound_fencePort ..

theorem sound_runAckNotice (p : Port) (k : NoticeKind) (s : State) : Sound s (State.runAckNotice p k s).2 := by
  unfold State.runAckNotice
  dsimp only
  split
  · exact (kept_setFlag ..).sound
  · exact .refl s

/-! OPEN -/

theorem Inv.quota_le {s : State} (h : Inv s) (p : Port) : s.settings.quota p ≤ 1024 := by
  cases p
  · exact (h.settings .quotaA).2
  · exact (h.settings .quotaB).2

theorem createEntry_cases (s : State) (p : Port) (k : RegionKey) (note : List Word) :
    (s.createEntry p k note = s.refuseQuota p k) ∨ (s.createEntry p k note = s.refuseFull p k) ∨
    ∃ n rest, s.journal.pool = n :: rest ∧ (s.session p).holdings < s.settings.quota p ∧ s.integrity.reserve < s.pooled ∧
      s.journal.stamp ≠ Config.stampMax ∧ s.createEntry p k note =
        ({ status := .opened, payload := stampAndCount s.journal.stamp 1 },
          (((s.created p k note n rest).raiseHoldings p).lowWaterTest).settle) := by
  unfold State.createEntry
  split
  · exact .inl rfl
  split
  · exact .inr (.inl rfl)
  split
  · exact .inr (.inl rfl)
  · next hQuota hPool hStamp =>
    split
    · exact .inr (.inl rfl)
    · next n rest hEq => exact .inr (.inr ⟨n, rest, hEq, Nat.not_le.1 hQuota, Nat.not_le.1 hPool, hStamp, rfl⟩)

theorem created_leaves (s : State) (p : Port) (k : RegionKey) (note : List Word) (n : Nat) (rest : List Nat) :
    (s.created p k note n rest).entryAt n = some (newBody p (s.session p).epoch s.journal.stamp note) ∧
    ∀ m, m ≠ n → (s.created p k note n rest).entryAt m = s.entryAt m := by
  obtain ⟨-, -, -, hJournal, -, -, -, -, -, -, -, hFree, -⟩ := created_frame s p k note n rest
  have hAssoc := assoc_insert (s := s) (t := s.created p k note n rest) (by rw [hJournal])
  have hStored := stored_of_insert (s := s) (t := s.created p k note n rest) (by rw [hJournal]) hFree
  refine ⟨entryAt_eq_some_iff.2 ⟨?_, ?_⟩, fun m hm => entryAt_congr ?_ ?_⟩
  · rw [hAssoc, if_pos rfl]
    nofun
  · rw [hStored, if_pos rfl]
    rfl
  · rw [hAssoc, if_neg hm]
  · rw [hStored, if_neg hm]

/-- The count of holdings rises with the new hold of an entry in slot `n`, whose other hold and adopter stand. -/
theorem PortCounted.newHold {s t : State} {p q : Port} (h : PortCounted s q) {n : Nat} (hn : n < 1024) (hOpen : s.isOpen p = true)
    (hSession : t.session q = if q = p then { s.session p with holdings := (s.session p).holdings + 1 } else s.session q)
    (hOther : ∀ m, m ≠ n → t.entryAt m = s.entryAt m) (hOld : s.holdsLive p n = false)
    (hNew : ∃ e, t.entryAt n = some e ∧ (e.hold p).map Held.epoch = some (s.session p).epoch)
    (hHold : q ≠ p → t.isOpen q = s.isOpen q → (t.session q).epoch = (s.session q).epoch → t.holdsLive q n = s.holdsLive q n)
    (hAdopt : t.isOpen q = s.isOpen q → (t.session q).epoch = (s.session q).epoch → t.adoptsLive q n = s.adoptsLive q n) :
    PortCounted t q := by
  by_cases hq : q = p
  · subst hq
    rw [if_pos rfl] at hSession
    obtain ⟨e, he, hEpoch⟩ := hNew
    have hOpen' : t.isOpen q = s.isOpen q := by rw [State.isOpen, hSession]; rfl
    refine h.change hn hOpen' (by rw [hSession]) hOther ?_ ?_
    · rw [hOld, (holdsLive_of_entry he).1, hOpen', hOpen, hSession, hEpoch]
      simp
    · rw [hAdopt hOpen' (by rw [hSession]), hSession]
  · rw [if_neg hq] at hSession
    have hOpen' : t.isOpen q = s.isOpen q := by rw [State.isOpen, hSession]; rfl
    exact h.of_entry hSession hOther ⟨hHold hq hOpen' (by rw [hSession]), hAdopt hOpen' (by rw [hSession])⟩

/-- A port's share of an entry follows from its session and the entry's hold, or its adopter. -/
theorem holdsLive_same {s t : State} {q : Port} {n : Nat} {e e' : EntryBody} (hs : s.entryAt n = some e) (ht : t.entryAt n = some e')
    (hOpen : t.isOpen q = s.isOpen q) (hEpoch : (t.session q).epoch = (s.session q).epoch) :
    (e'.hold q = e.hold q → t.holdsLive q n = s.holdsLive q n) ∧ (e'.adopter = e.adopter → t.adoptsLive q n = s.adoptsLive q n) := by
  obtain ⟨h1, h2⟩ := holdsLive_of_entry (p := q) hs
  obtain ⟨h3, h4⟩ := holdsLive_of_entry (p := q) ht
  rw [h1, h2, h3, h4, hOpen, hEpoch]
  exact ⟨fun h => by rw [h], fun h => by rw [h]⟩

theorem raiseHoldings_session (s : State) (p q : Port) :
    (s.raiseHoldings p).session q = if q = p then { s.session p with holdings := (s.session p).holdings + 1 } else s.session q := by
  rw [State.raiseHoldings, session_eq, setSession_sessions, PerPort.get_set]
  rfl

theorem soundIf_createEntry {I : Prop} {s : State} {p : Port} {k : RegionKey} {note : List Word} (hOpen : s.isOpen p = true)
    (hNote : note.length ≤ 2) (hFresh : I → Inv s → ∀ m f, ¬s.Lives m k f) : SoundIf I s (s.createEntry p k note).2 := by
  rcases createEntry_cases s p k note with h | h | ⟨n, rest, hPool, hQuota, -, hMax, h⟩
  · rw [h]
    exact (sound_capture ..).soundIf
  · rw [h]
    exact (sound_capture ..).soundIf
  · rw [h]
    refine KeptIf.soundIf_settle ((keptIf_created hPool hOpen hMax hNote hFresh).trans (Kept.keptIf (.trans (kept_raiseHoldings ?_ fun hi => ?_)
      (kept_lowWaterTest _)))) fun hI hi hc q => ?_
    · exact hOpen
    · exact Nat.lt_of_lt_of_le hQuota (hi.quota_le p)
    · have hn : n ∈ s.journal.pool := hPool ▸ List.mem_cons_self ..
      have hNone := uncounted_of_free (hi.journal.poolFree n hn)
      obtain ⟨hEntry, hOther⟩ := created_leaves s p k note n rest
      obtain ⟨-, -, hAdopter, -⟩ := newBody_fields p (s.session p).epoch s.journal.stamp note
      have hStep : PortCounted ((s.created p k note n rest).raiseHoldings p) q := by
        refine (hc q).newHold (hi.journal.poolRange n hn) hOpen (raiseHoldings_session _ p q) hOther (hNone p).1
          ⟨_, hEntry, by rw [newBody_hold, if_pos rfl]; rfl⟩ (fun hq _ _ => ?_) fun _ _ => ?_
        · rw [(hNone q).1, (holdsLive_of_entry (s := (s.created p k note n rest).raiseHoldings p) hEntry).1, newBody_hold, if_neg hq]
          simp
        · rw [(hNone q).2, (holdsLive_of_entry (s := (s.created p k note n rest).raiseHoldings p) hEntry).2, hAdopter]
          simp
      exact hStep.of_parts

theorem setHold_fields (e : EntryBody) (p : Port) (h : Option Held) :
    (e.setHold p h).state = e.state ∧ (e.setHold p h).stamp = e.stamp ∧ (e.setHold p h).adopter = e.adopter ∧
    (e.setHold p h).lostHolder = e.lostHolder ∧ (e.setHold p h).damaged = e.damaged ∧ (e.setHold p h).note = e.note := by
  cases p <;> exact ⟨rfl, rfl, rfl, rfl, rfl, rfl⟩

theorem setHold_hold (e : EntryBody) (p q : Port) (h : Option Held) :
    (e.setHold p h).hold q = if q = p then h else e.hold q := by
  cases p <;> cases q <;> rfl

theorem hold_isSome_or {e : EntryBody} {p : Port} (h : (e.hold p).isSome = true) : e.holdA.isSome = true ∨ e.holdB.isSome = true := by
  cases p
  · exact .inl h
  · exact .inr h

/-- An OPEN entry with one hold changed, while a hold is left. -/
theorem EntryOk.setHold {e : EntryBody} {c : Stamp} (h : EntryOk e c) (hs : e.state = .opened) {p q : Port} {x : Option Held}
    {note : List Word} (hx : ∀ y, x = some y → 1 ≤ y.count ∧ y.count ≤ 15 ∧ y.epoch ≠ 0#16)
    (hSome : ((e.setHold p x).hold q).isSome = true) (hNote : note.length ≤ 2) :
    EntryOk { e.setHold p x with note := note } c := by
  obtain ⟨hState, hStamp, hAdopter, -, hDamaged, -⟩ := setHold_fields e p x
  have hNone := (h.opened hs).2
  refine ⟨fun _ => ⟨hold_isSome_or hSome, hAdopter.trans hNone⟩, fun ho => ?_, fun ho => ?_, fun r y hy => ?_, fun a ha => ?_, hNote,
    fun h0 => ?_, fun h0 => ?_⟩
  · exact absurd ((hState.trans hs).symm.trans ho) nofun
  · exact absurd ((hState.trans hs).symm.trans ho) nofun
  · have hy' : (e.setHold p x).hold r = some y := by cases r <;> exact hy
    rw [setHold_hold] at hy'
    split at hy'
    · exact hx y hy'
    · exact h.holds r y hy'
  · exact absurd ((hAdopter.trans hNone).symm.trans ha) nofun
  · exact hDamaged.trans (h.stampless (hStamp.symm.trans h0))
  · have h0' : (e.setHold p x).stamp ≠ 0#64 := h0
    rw [hStamp] at h0'
    show (e.setHold p x).stamp.toNat < c.toNat
    rw [hStamp]
    exact h.stamped h0'

theorem appliedNote_length {a b : List Word} (ha : a.length ≤ 2) (hb : b.length ≤ 2) : (appliedNote a b).length ≤ 2 := by
  unfold appliedNote
  split
  · exact hb
  · exact ha

theorem keptIf_setHold {I : Prop} {s : State} {n : Nat} {k : RegionKey} {e : EntryBody} (hl : I → Inv s → s.Lives n k e)
    (hs : I → Inv s → e.state = .opened) {p q : Port} {x : Option Held} {note : List Word}
    (hx : I → Inv s → ∀ y, x = some y → 1 ≤ y.count ∧ y.count ≤ 15 ∧ y.epoch ≠ 0#16)
    (hSome : ((e.setHold p x).hold q).isSome = true) (hNote : I → Inv s → note.length ≤ 2) :
    KeptIf I s (s.bodyWrite n { e.setHold p x with note := note }) := by
  obtain ⟨hState, hStamp, -⟩ := setHold_fields e p x
  have hOld : I → Inv s → e.state ≠ .orphan := fun hI hi h => absurd ((hs hI hi).symm.trans h) nofun
  exact keptIf_bodyWrite hl (fun hI hi => (hi.journal.table.fields (hl hI hi)).setHold (hs hI hi) (hx hI hi) hSome (hNote hI hi))
    (fun _ _ => hStamp) hOld fun hI hi h => hOld hI hi (hState.symm.trans h)

theorem bodyWrite_leaves_entry {s : State} {n : Nat} {k : RegionKey} {e : EntryBody} (hl : s.Lives n k e) (e' : EntryBody) :
    (s.bodyWrite n e').entryAt n = some e' ∧ ∀ m, m ≠ n → (s.bodyWrite n e').entryAt m = s.entryAt m :=
  ⟨(bodyWrite_lives hl e').2, fun m hm => entryAt_congr ((bodyWrite_assoc s n e').2 m hm) ((bodyWrite_stored s n e').2 m hm)⟩

/-- An entry's fields change, but neither whose holds it has nor its adopter. -/
theorem KeptIf.soundIf_bodyWrite {I : Prop} {s : State} {n : Nat} {k : RegionKey} {e e' : EntryBody} (h : KeptIf I s (s.bodyWrite n e'))
    (hl : I → Inv s → s.Lives n k e) (hHold : ∀ q, (e'.hold q).map Held.epoch = (e.hold q).map Held.epoch)
    (hAdopter : e'.adopter = e.adopter) : SoundIf I s (s.bodyWrite n e') := by
  refine ⟨h, fun _ _ hs => hs.of_eq, fun hI hi hc q => ?_⟩
  obtain ⟨hEntry, hOther⟩ := bodyWrite_leaves_entry (hl hI hi) e'
  obtain ⟨h1, h2⟩ := holdsLive_of_entry (p := q) (hl hI hi).2
  obtain ⟨h3, h4⟩ := holdsLive_of_entry (p := q) hEntry
  have hSession : (s.bodyWrite n e').session q = s.session q := by simp
  refine (hc q).of_entry hSession hOther ?_
  rw [h1, h2, h3, h4, hHold, hAdopter, State.isOpen, hSession]
  exact ⟨rfl, rfl⟩

/-- An entry takes a hold of a port that had none, and the port's holdings count rises. -/
theorem KeptIf.soundIf_newHold {I : Prop} {s : State} {p : Port} {n : Nat} {k : RegionKey} {e e' : EntryBody}
    (h : KeptIf I s ((s.bodyWrite n e').raiseHoldings p)) (hl : I → Inv s → s.Lives n k e) (hOpen : s.isOpen p = true)
    (hNone : e.hold p = none) (hNew : (e'.hold p).map Held.epoch = some (s.session p).epoch) (hOthers : ∀ q, q ≠ p → e'.hold q = e.hold q)
    (hAdopter : e'.adopter = e.adopter) : SoundIf I s ((s.bodyWrite n e').raiseHoldings p) := by
  refine ⟨h, fun _ _ hs => hs.of_eq, fun hI hi hc q => ?_⟩
  have hLive := hl hI hi
  obtain ⟨hEntry, hOther⟩ := bodyWrite_leaves_entry hLive e'
  have hTaken : ((s.bodyWrite n e').raiseHoldings p).entryAt n = some e' := hEntry
  refine (hc q).newHold (hi.lt_of_lives hLive) hOpen ?_ hOther ?_ ⟨e', hTaken, hNew⟩ (fun hq ho he => ?_) fun ho he => ?_
  · rw [raiseHoldings_session]
    simp
  · rw [(holdsLive_of_entry hLive.2).1, hNone]
    simp
  · exact (holdsLive_same hLive.2 hTaken ho he).1 (hOthers q hq)
  · exact (holdsLive_same hLive.2 hTaken ho he).2 hAdopter

theorem withNote_hold (e : EntryBody) (l : List Word) (q : Port) : ({ e with note := l } : EntryBody).hold q = e.hold q := by
  cases q <;> rfl

theorem soundIf_joinEntry {I : Prop} {s : State} {p : Port} {k : RegionKey} {note : List Word} {n : Nat} {e : EntryBody}
    (hOpen : s.isOpen p = true) (hNote : note.length ≤ 2) (hl : I → Inv s → s.Lives n k e) :
    SoundIf I s (s.joinEntry p k note n e).2 := by
  have hWords : I → Inv s → (appliedNote note e.note).length ≤ 2 := fun hI hi =>
    appliedNote_length hNote (hi.journal.table.fields (hl hI hi)).note
  unfold State.joinEntry
  split
  · exact (Sound.refl s).soundIf
  · exact (Sound.refl s).soundIf
  · next hs =>
    split
    · next h hp =>
      split
      · next hLimit =>
        refine (keptIf_setHold (q := p) hl (fun _ _ => hs) (fun hI hi y hy => ?_) (by rw [setHold_hold, if_pos rfl]; rfl) hWords).soundIf_bodyWrite
          hl (fun q => ?_) (setHold_fields e p _).2.2.1
        · obtain rfl := Option.some.inj hy
          obtain ⟨-, -, hEpoch⟩ := (hi.journal.table.fields (hl hI hi)).holds p h hp
          exact ⟨Nat.succ_le_succ (Nat.zero_le _), hLimit, hEpoch⟩
        · rw [withNote_hold, setHold_hold]
          split
          · next hq => rw [hq, hp]; rfl
          · rfl
      · exact (Sound.refl s).soundIf
    · next hp =>
      split
      · exact (sound_capture ..).soundIf
      · next hQuota =>
        refine KeptIf.soundIf_newHold (e := e) ((keptIf_setHold (q := p) hl (fun _ _ => hs) (fun hI hi y hy => ?_)
          (by rw [setHold_hold, if_pos rfl]; rfl) hWords).trans (kept_raiseHoldings ?_ fun hi => ?_).keptIf) hl hOpen hp ?_ (fun q hq => ?_)
          (setHold_fields e p _).2.2.1
        · obtain rfl := Option.some.inj hy
          exact ⟨Nat.le_refl 1, by simp, (hi.ports p).epoch hOpen⟩
        · simpa using hOpen
        · have h1 := hi.quota_le p
          simp only [session_eq, bodyWrite_frame, settings_eq] at h1 hQuota ⊢
          omega
        · rw [withNote_hold, setHold_hold, if_pos rfl]
          rfl
        · rw [withNote_hold, setHold_hold, if_neg hq]

theorem sound_runOpen {p : Port} {k : RegionKey} {note : List Word} (hNote : note.length ≤ 2) (w : SlotWear) {s : State}
    (hOpen : s.isOpen p = true) : Sound s (State.runOpen p k note w s).2 := by
  unfold State.runOpen
  split
  · exact .refl s
  split
  · exact .refl s
  · next hDrain =>
    have hAttached : (s.session p).state = .attached := by
      simp only [isOpen_eq, session_eq] at hOpen hDrain ⊢
      cases hs : (s.sessions.get p).state <;> simp_all [SessionState.isOpen]
    split
    · next hk => exact (soundIf_createEntry hOpen hNote fun hi _ => hi.fresh_of_lookup hk).sound
    · next n hk =>
      have hRange : Inv s → n < 1024 := fun hi => hi.lt_of_keyAt (hi.keyAt_of_lookup hk)
      have hOpen' : (s.readSlot n w).isOpen p = true := isOpen_of_attached (attachedKept_readSlot s n w p hAttached)
      refine (sound_readSlot hRange w).thenIf ?_
      dsimp only
      split
      · next e he => exact soundIf_joinEntry hOpen' hNote fun hi _ => hi.lives_of_read hk he
      · next he => exact soundIf_createEntry hOpen' hNote fun hi _ => readSlot_fresh hi (hi.keyAt_of_lookup hk) he

/-! CLOSE, QUERY and RESOLVE -/

/-- An entry that is not in the orphan list is removed: the slot's own record, then its place in the pool. -/
theorem removeEntry_eq {s : State} {n : Nat} {k : RegionKey}
    (h : (s.journal.orphans.filter fun o => o.key ≠ k) = s.journal.orphans) :
    ((s.freeWrite n).unlink n).freeSlotOf n =
      if (s.block (blockOf n)).state = .inService then (s.strike n k).poolSlot n else s.strike n k := by
  have hDrop : s.dropOrphan k = s := by rw [State.dropOrphan, h]; rfl
  have hSwap : (s.freeWrite n).unlink n = (s.unlink n).freeWrite n := rfl
  have hBlock : ((s.unlink n).freeWrite n).block (blockOf n) = s.block (blockOf n) := rfl
  have hStrike : s.strike n k = if (s.block (blockOf n)).state.inProgress
      then ((s.unlink n).freeWrite n).lowerReserve else (s.unlink n).freeWrite n := by
    rw [State.strike, hDrop]
    rfl
  rw [hStrike, hSwap, State.freeSlotOf, hBlock]
  split
  · next hs => rw [hs]; rfl
  · rfl

theorem keptIf_removeEntry {I : Prop} {s : State} {n : Nat} {k : RegionKey} {e : EntryBody} (hl : I → Inv s → s.Lives n k e)
    (he : I → Inv s → e.state ≠ .orphan) : KeptIf I s (s.removeEntry n) := by
  refine KeptIf.trans (t := ((s.freeWrite n).unlink n).freeSlotOf n) ⟨.of_links (by simp), fun hI hi => ?_, by simp, by simp,
    retiring_of_blocks⟩ (kept_settle _).keptIf
  have hLive := hl hI hi
  rw [removeEntry_eq (filter_of_not_orphan hi hLive (he hI hi))]
  have hStrike := (keptIf_strike (I := True) fun _ _ => ⟨e, hLive⟩).inv trivial hi
  split
  · next hHome =>
    obtain ⟨a, ha, -, -⟩ := lives_iff.1 hLive
    obtain ⟨-, -, -, hJournal, hEngine, -, hIntegrity, -⟩ := strike_frame s n k
    have hNot : s.assoc n ≠ none := assoc_ne_none ha
    refine (kept_poolSlot (fun _ => hi.lt_of_lives hLive) (fun _ => ?_) (fun _ hp => ?_) (fun _ hs => ?_) fun _ => ?_).inv hStrike
    · rw [assoc_erase hi.journal.indexWf (by rw [hJournal]), if_pos rfl]
    · rw [hJournal] at hp
      exact hNot (hi.journal.poolFree n hp)
    · rw [hEngine] at hs
      exact absurd hs (hi.journal.not_starting hNot)
    · rw [block_eq, Integrity.block, hIntegrity]
      exact hHome
  · exact hStrike

theorem opened_of_hold {e : EntryBody} {c : Stamp} (h : EntryOk e c) {p : Port} {x : Held} (hp : e.hold p = some x) :
    e.state = .opened := by
  refine Decidable.not_not.1 fun hs => ?_
  rw [h.hold_none hs p] at hp
  cases hp

theorem lessHold_or (x : Session) : x.lessHold.state.isOpen = false ∨ x.lessHold = { x with holdings := x.holdings - 1 } := by
  unfold Session.lessHold Session.drained
  split
  · exact .inl rfl
  · exact .inr rfl

theorem lessAdoption_or (x : Session) : x.lessAdoption.state.isOpen = false ∨ x.lessAdoption = { x with adoptions := x.adoptions - 1 } := by
  unfold Session.lessAdoption Session.drained
  split
  · exact .inl rfl
  · exact .inr rfl

theorem epochLive_iff {s : State} {p : Port} {x : Epoch} : s.epochLive p x = true ↔ s.isOpen p = true ∧ x = (s.session p).epoch := by
  rw [State.epochLive, Bool.and_eq_true, decide_eq_true_iff, and_comm]

/-- The live hold that port `p` has in an OPEN entry goes, and the port's holdings count falls. -/
theorem counted_lowerHoldings {s t : State} {p : Port} {n : Nat} {k : RegionKey} {e : EntryBody} {x : Held} (hi : Inv s) (ht : Inv t)
    (hl : s.Lives n k e) (hx : e.hold p = some x) (hLive : s.epochLive p x.epoch = true) (hAdopter : e.adopter = none)
    (hSession : ∀ q, t.session q = if q = p then (s.session p).lessHold else s.session q)
    (hOther : ∀ m, m ≠ n → t.entryAt m = s.entryAt m) (hGone : Uncounted t p n)
    (hPeer : ∀ q, q ≠ p → t.session q = s.session q → t.holdsLive q n = s.holdsLive q n ∧ t.adoptsLive q n = s.adoptsLive q n)
    (hc : ∀ q, PortCounted s q) (q : Port) : PortCounted t q := by
  have hEq := hSession q
  by_cases hq : q = p
  · subst hq
    rw [if_pos rfl] at hEq
    obtain ⟨hOpen, hEpoch⟩ := epochLive_iff.1 hLive
    obtain ⟨h1, h2⟩ := holdsLive_of_entry (p := q) hl.2
    have hHold : s.holdsLive q n = true := by rw [h1, hOpen, hx, Option.map_some, hEpoch]; simp
    have hNot : s.adoptsLive q n = false := by rw [h2, hAdopter]; simp
    refine (hc q).lowered_entry ht (hi.lt_of_lives hl) hOther hGone ?_
    rw [State.isOpen, hEq, hHold, hNot]
    exact lessHold_or _
  · rw [if_neg hq] at hEq
    exact (hc q).of_entry hEq hOther (hPeer q hq hEq)

/-- R92: the entry is ADOPTED, by `p` under the epoch of its open session. -/
theorem adoptedBy_iff {s : State} {p : Port} {e : EntryBody} :
    s.adoptedBy p e = true ↔ e.state = .adopted ∧ e.adopter = some ⟨p, (s.session p).epoch⟩ ∧ s.isOpen p = true := by
  unfold State.adoptedBy
  cases e.adopter with
  | none => simp
  | some a =>
    obtain ⟨q, x⟩ := a
    simp only [State.adopterLive, State.epochLive, Bool.and_eq_true, decide_eq_true_eq, Option.some.injEq, Adopter.mk.injEq]
    constructor
    · rintro ⟨h0, rfl, h1, h2⟩
      exact ⟨h0, ⟨rfl, h1⟩, h2⟩
    · rintro ⟨h0, ⟨rfl, rfl⟩, h2⟩
      exact ⟨h0, rfl, rfl, h2⟩

/-- The live adoption that port `p` has of an entry goes with the entry, and the port's adoptions count falls. -/
theorem counted_lowerAdoptions {s t : State} {p : Port} {n : Nat} {k : RegionKey} {e : EntryBody} (hi : Inv s) (ht : Inv t)
    (hl : s.Lives n k e) (hOwn : s.adoptedBy p e = true)
    (hSession : ∀ q, t.session q = if q = p then (s.session p).lessAdoption else s.session q)
    (hOther : ∀ m, m ≠ n → t.entryAt m = s.entryAt m) (hGone : t.entryAt n = none) (hc : ∀ q, PortCounted s q) (q : Port) :
    PortCounted t q := by
  obtain ⟨hState, hAdopter, hOpen⟩ := adoptedBy_iff.1 hOwn
  have hNone : ∀ r, Uncounted t r n := fun r => by simp only [Uncounted, State.holdsLive, State.adoptsLive, hGone, and_self]
  have hHold : ∀ r, s.holdsLive r n = false := fun r => by
    rw [(holdsLive_of_entry hl.2).1, (hi.journal.table.fields hl).hold_none (fun h => absurd (hState.symm.trans h) nofun)]
    simp
  have hEq := hSession q
  by_cases hq : q = p
  · subst hq
    rw [if_pos rfl] at hEq
    have hAdopt : s.adoptsLive q n = true := by rw [(holdsLive_of_entry hl.2).2, hOpen, hAdopter]; simp
    refine (hc q).lowered_entry ht (hi.lt_of_lives hl) hOther (hNone q) ?_
    rw [State.isOpen, hEq, hHold, hAdopt]
    exact lessAdoption_or _
  · rw [if_neg hq] at hEq
    refine (hc q).of_entry hEq hOther ⟨(hNone q).1.trans (hHold q).symm, (hNone q).2.trans (Eq.symm ?_)⟩
    rw [(holdsLive_of_entry hl.2).2, hAdopter]
    have : ¬(p = q) := fun h => hq h.symm
    simp [this]

/-- A removed entry's slot counts no more; the others stand. -/
theorem removeEntry_leaves {s : State} (hw : s.journal.index.wf = true) (n : Nat) :
    (s.removeEntry n).assoc n = none ∧ ∀ m, m ≠ n → (s.removeEntry n).assoc m = s.assoc m ∧ (s.removeEntry n).stored m = s.stored m := by
  have hIndex : (s.removeEntry n).journal.index = SlotMap.erase n s.journal.index := by
    simp [State.removeEntry, State.unlink]
  have hStore : (s.removeEntry n).journal.store = SlotMap.insert n freeSlot s.journal.store := by
    simp [State.removeEntry, State.freeWrite, State.putSlot]
  have hAssoc := assoc_erase hw hIndex
  have hStored := stored_of_insert hStore (by simp)
  exact ⟨by rw [hAssoc, if_pos rfl], fun m hm => ⟨by rw [hAssoc, if_neg hm], by rw [hStored, if_neg hm]⟩⟩

theorem settled_removeEntry {s : State} (hi : Inv s) {n : Nat} {k : RegionKey} {e : EntryBody} (hl : s.Lives n k e)
    (he : e.state ≠ .orphan) : Settled (s.removeEntry n) := by
  refine settled_settle ?_
  rw [removeEntry_eq (filter_of_not_orphan hi hl he)]
  have hStruck := ((keptIf_strike (I := True) fun _ _ => ⟨e, hl⟩).inv trivial hi).blocks.retirement
  split
  · exact hStruck.of_eq
  · exact hStruck

theorem lowerHoldings_parts {s t : State} (h : t.sessions = s.sessions) (p q : Port) :
    (t.lowerHoldings p).session q = if q = p then (s.session p).lessHold else s.session q := by
  rw [lowerHoldings_session, session_eq, session_eq, h]
  rfl

theorem lowerAdoptions_parts {s t : State} (h : t.sessions = s.sessions) (p q : Port) :
    (t.lowerAdoptions p).session q = if q = p then (s.session p).lessAdoption else s.session q := by
  rw [lowerAdoptions_session, session_eq, session_eq, h]
  rfl

theorem lowerHoldings_entry (s : State) (p : Port) (n : Nat) : (s.lowerHoldings p).entryAt n = s.entryAt n :=
  entryAt_of_store (by simp) (by simp) (by simp) n

theorem lowerAdoptions_entry (s : State) (p : Port) (n : Nat) : (s.lowerAdoptions p).entryAt n = s.entryAt n :=
  entryAt_of_store (by simp) (by simp) (by simp) n

/-- The entry keeps its other hold, or had none; the hold of `p` and the adopter are gone from it. -/
theorem peerStands_of_entry {s t : State} {p q : Port} (hq : q ≠ p) {n : Nat} {e e' : EntryBody} (hs : s.entryAt n = some e) (ht : t.entryAt n = some e')
    (hEq : t.session q = s.session q) (hHold : e'.hold p.other = e.hold p.other) (hAdopter : e'.adopter = e.adopter) :
    t.holdsLive q n = s.holdsLive q n ∧ t.adoptsLive q n = s.adoptsLive q n := by
  obtain rfl := (Port.eq_or_other p q).resolve_left hq
  have hSame := holdsLive_same (q := p.other) hs ht (by rw [State.isOpen, hEq]; rfl) (by rw [hEq])
  exact ⟨hSame.1 hHold, hSame.2 hAdopter⟩

/-- The hold of `p` in an entry with another hold is emptied (R38). -/
theorem soundIf_emptyHold {I : Prop} {s : State} {p : Port} {k : RegionKey} {n : Nat} {e : EntryBody} {h : Held}
    (hl : I → Inv s → s.Lives n k e) (hp : e.hold p = some h) (hLive : I → Inv s → s.epochLive p h.epoch = true)
    (hOther : (e.hold p.other).isSome = true) : SoundIf I s ((s.bodyWrite n (e.setHold p none)).lowerHoldings p) := by
  have hKeep : e.setHold p none = { e.setHold p none with note := e.note } := by cases p <;> rfl
  have hKept : KeptIf I s ((s.bodyWrite n (e.setHold p none)).lowerHoldings p) := by
    rw [hKeep]
    refine (keptIf_setHold (x := none) (q := p.other) hl (fun hI hi => opened_of_hold (hi.journal.table.fields (hl hI hi)) hp)
      (fun _ _ _ hy => nomatch hy) ?_ fun hI hi => (hi.journal.table.fields (hl hI hi)).note).trans (kept_lowerHoldings ..).keptIf
    rw [setHold_hold, if_neg (Port.other_ne p)]
    exact hOther
  refine ⟨hKept, fun _ _ hs => hs.of_eq, fun hI hi hc => ?_⟩
  have hLives := hl hI hi
  have hOk := hi.journal.table.fields hLives
  have hAdopter := (hOk.opened (opened_of_hold hOk hp)).2
  obtain ⟨hEntry, hStands⟩ := bodyWrite_leaves_entry hLives (e.setHold p none)
  have hHere : ((s.bodyWrite n (e.setHold p none)).lowerHoldings p).entryAt n = some (e.setHold p none) :=
    (lowerHoldings_entry ..).trans hEntry
  have hFields := (setHold_fields e p none).2.2.1
  refine counted_lowerHoldings hi (hKept.inv hI hi) hLives hp (hLive hI hi) hAdopter (lowerHoldings_parts (by simp) p)
    (fun m hm => (lowerHoldings_entry ..).trans (hStands m hm)) (uncounted_of_entry hHere ?_ (hFields.trans hAdopter)) (fun q hq hEq => ?_) hc
  · rw [setHold_hold, if_pos rfl]
  · exact peerStands_of_entry hq hLives.2 hHere hEq (by rw [setHold_hold, if_neg (Port.other_ne p)]) hFields

/-- The entry that the last hold of an OPEN entry leaves behind (R39). -/
theorem EntryOk.orphaned {e : EntryBody} {c : Stamp} (h : EntryOk e c) (hs : e.state = .opened) {p : Port} (hp : e.hold p.other = none) :
    EntryOk { e.setHold p none with state := .orphan } c ∧ ∀ q, ({ e.setHold p none with state := .orphan } : EntryBody).hold q = none := by
  obtain ⟨-, hStamp, hAdopter, -, hDamaged, hWords⟩ := setHold_fields e p none
  have hNone : ∀ q, (e.setHold p none).hold q = none := fun q => by
    rw [setHold_hold]
    split
    · rfl
    · next hq => rwa [(Port.eq_or_other p q).resolve_left hq]
  have hNone' : ∀ q, ({ e.setHold p none with state := .orphan } : EntryBody).hold q = none := fun q => by
    cases q
    · exact hNone .a
    · exact hNone .b
  refine ⟨⟨nofun, fun _ => ⟨hNone .a, hNone .b, hAdopter.trans (h.opened hs).2⟩, nofun, fun q y hy => ?_, fun a ha => ?_, ?_, ?_, ?_⟩, hNone'⟩
  · rw [hNone' q] at hy
    cases hy
  · exact absurd ((hAdopter.trans (h.opened hs).2).symm.trans ha) nofun
  · exact hWords ▸ h.note
  · exact fun h0 => hDamaged.trans (h.stampless (hStamp.symm.trans h0))
  · intro h0
    show (e.setHold p none).stamp.toNat < _
    rw [hStamp]
    exact h.stamped fun h => h0 (hStamp.trans h)

/-- The last hold of an entry with the lost-holder mark is emptied (R40). -/
theorem soundIf_orphanHold {I : Prop} {s : State} {p : Port} {k : RegionKey} {n : Nat} {e : EntryBody} {h : Held}
    (hl : I → Inv s → s.Lives n k e) (hp : e.hold p = some h) (hLive : I → Inv s → s.epochLive p h.epoch = true)
    (hOther : e.hold p.other = none) :
    SoundIf I s (((s.bodyWrite n { e.setHold p none with state := .orphan }).joinOrphans k e.stamp).lowerHoldings p) := by
  have hs : I → Inv s → e.state = .opened := fun hI hi => opened_of_hold (hi.journal.table.fields (hl hI hi)) hp
  have hStamp := (setHold_fields e p none).2.1
  have hKept : KeptIf I s (((s.bodyWrite n { e.setHold p none with state := .orphan }).joinOrphans k e.stamp).lowerHoldings p) :=
    (keptIf_bodyWrite_joinOrphans (e' := { e.setHold p none with state := .orphan }) (fun hI hi => ⟨e, hl hI hi, .inl hStamp⟩)
      (fun hI hi => ((hi.journal.table.fields (hl hI hi)).orphaned (hs hI hi) hOther).1) rfl hStamp).trans (kept_lowerHoldings ..).keptIf
  refine ⟨hKept, fun _ _ hs => hs.of_eq, fun hI hi hc => ?_⟩
  have hLives := hl hI hi
  have hOk := hi.journal.table.fields hLives
  have hAdopter := (hOk.opened (hs hI hi)).2
  have hNone := (hOk.orphaned (hs hI hi) hOther).2
  obtain ⟨hEntry, hStands⟩ := bodyWrite_leaves_entry hLives { e.setHold p none with state := .orphan }
  have hEntries : ∀ m, (((s.bodyWrite n { e.setHold p none with state := .orphan }).joinOrphans k e.stamp).lowerHoldings p).entryAt m =
      (s.bodyWrite n { e.setHold p none with state := .orphan }).entryAt m := fun m =>
    (lowerHoldings_entry ..).trans (entryAt_of_store (by simp) (by simp) (by simp) m)
  have hHere := (hEntries n).trans hEntry
  have hFields : (e.setHold p none).adopter = e.adopter := (setHold_fields e p none).2.2.1
  exact counted_lowerHoldings hi (hKept.inv hI hi) hLives hp (hLive hI hi) hAdopter (lowerHoldings_parts (by simp) p)
    (fun m hm => (hEntries m).trans (hStands m hm)) (uncounted_of_entry hHere (hNone p) (hFields.trans hAdopter))
    (fun q hq hEq => peerStands_of_entry hq hLives.2 hHere hEq ((hNone _).trans hOther.symm) hFields) hc

/-- The last hold of an entry is emptied, and the entry removed (R39). -/
theorem soundIf_releaseHold {I : Prop} {s : State} {p : Port} {k : RegionKey} {n : Nat} {e : EntryBody} {h : Held}
    (hl : I → Inv s → s.Lives n k e) (hp : e.hold p = some h) (hLive : I → Inv s → s.epochLive p h.epoch = true)
    (hOther : e.hold p.other = none) : SoundIf I s ((s.removeEntry n).lowerHoldings p) := by
  have hs : I → Inv s → e.state ≠ .orphan := fun hI hi h =>
    absurd ((opened_of_hold (hi.journal.table.fields (hl hI hi)) hp).symm.trans h) nofun
  have hKept : KeptIf I s ((s.removeEntry n).lowerHoldings p) := (keptIf_removeEntry hl hs).trans (kept_lowerHoldings ..).keptIf
  refine ⟨hKept, fun hI hi _ => (settled_removeEntry hi (hl hI hi) (hs hI hi)).of_eq, fun hI hi hc => ?_⟩
  have hLives := hl hI hi
  have hOk := hi.journal.table.fields hLives
  have hAdopter := (hOk.opened (opened_of_hold hOk hp)).2
  obtain ⟨hFree, hStands⟩ := removeEntry_leaves hi.journal.indexWf n
  have hGone := fun q => uncounted_of_free (s := (s.removeEntry n).lowerHoldings p) (n := n) (by simpa using hFree) q
  refine counted_lowerHoldings hi (hKept.inv hI hi) hLives hp (hLive hI hi) hAdopter (lowerHoldings_parts (by simp) p)
    (fun m hm => (lowerHoldings_entry ..).trans (entryAt_congr (hStands m hm).1 (hStands m hm).2)) (hGone p) (fun q hq _ => ?_) hc
  obtain rfl := (Port.eq_or_other p q).resolve_left hq
  rw [(hGone _).1, (hGone _).2, (holdsLive_of_entry hLives.2).1, (holdsLive_of_entry hLives.2).2, hOther, hAdopter]
  simp

theorem soundIf_closeHold {I : Prop} {s : State} {p : Port} {k : RegionKey} {n : Nat} {e : EntryBody} {h : Held}
    (hl : I → Inv s → s.Lives n k e) (hp : e.hold p = some h) (hLive : I → Inv s → s.epochLive p h.epoch = true) :
    SoundIf I s (s.closeHold p k n e h).2 := by
  unfold State.closeHold
  split
  · next hCount =>
    have hKeep : ∀ x, (e.setHold p x : EntryBody) = { e.setHold p x with note := e.note } := fun x => by cases p <;> rfl
    refine KeptIf.soundIf_bodyWrite ?_ hl (fun q => ?_) (setHold_fields e p _).2.2.1
    · rw [hKeep]
      refine keptIf_setHold (q := p) hl (fun hI hi => opened_of_hold (hi.journal.table.fields (hl hI hi)) hp) (fun hI hi y hy => ?_)
        (by rw [setHold_hold, if_pos rfl]; rfl) fun hI hi => (hi.journal.table.fields (hl hI hi)).note
      obtain rfl := Option.some.inj hy
      obtain ⟨-, hMax, hEpoch⟩ := (hi.journal.table.fields (hl hI hi)).holds p h hp
      exact ⟨by simp only; omega, by simp only; omega, hEpoch⟩
    · rw [setHold_hold]
      split
      · next hq => rw [hq, hp]; rfl
      · rfl
  split
  · next hOther => exact soundIf_emptyHold hl hp hLive hOther
  · next hOther =>
    have hOther' : e.hold p.other = none := by simpa using hOther
    split
    · exact soundIf_orphanHold hl hp hLive hOther'
    · exact soundIf_releaseHold hl hp hLive hOther'

end Sys2Proof.Machine
end

section
/-! PROOFS. What CLOSE, QUERY, ADOPT and RESOLVE keep, and what a relocation move keeps. -/

-- The proofs are checked one after the other: run at once, their threads would exceed the memory bound of the check.
set_option Elab.async false

namespace Sys2Proof.Machine

/-! CLOSE, QUERY and RESOLVE -/

/-- A hold of an entry that a slot read leaves is live. -/
theorem Inv.hold_of_read {s : State} (h : Inv s) {k : RegionKey} {n : Nat} (hk : s.lookup k = some n) {w : SlotWear} {e : EntryBody}
    (he : (s.readSlot n w).entryAt n = some e) {p : Port} {x : Held} (hp : e.hold p = some x) :
    (s.readSlot n w).epochLive p x.epoch = true :=
  (readSlot_lives h (h.lt_of_keyAt (h.keyAt_of_lookup hk)) (h.lives_of_read hk he)).2.1 p x hp

theorem sound_lookupRead {s : State} {k : RegionKey} {n : Nat} (hk : s.lookup k = some n) (w : SlotWear) : Sound s (s.readSlot n w) :=
  sound_readSlot (fun hi => hi.lt_of_keyAt (hi.keyAt_of_lookup hk)) w

theorem sound_runClose (p : Port) (k : RegionKey) (w : SlotWear) (s : State) : Sound s (State.runClose p k w s).2 := by
  unfold State.runClose
  split
  · exact .refl s
  · next n hk =>
    dsimp only
    split
    · exact sound_lookupRead hk w
    · next e he =>
      split
      · exact sound_lookupRead hk w
      · next h hp =>
        exact (sound_lookupRead hk w).thenIf (soundIf_closeHold (fun hi _ => hi.lives_of_read hk he) hp fun hi _ => hi.hold_of_read hk he hp)

theorem sound_runQuery (k : RegionKey) (w : SlotWear) (s : State) : Sound s (State.runQuery k w s).2 := by
  unfold State.runQuery
  split
  · exact .refl s
  · next n hk =>
    dsimp only
    split
    · exact sound_lookupRead hk w
    · exact sound_lookupRead hk w

/-- An entry that its live adopter resolves goes, and the adopter's count falls (R93). -/
theorem soundIf_resolveEntry {I : Prop} {s : State} {p : Port} {k : RegionKey} {n : Nat} {e : EntryBody}
    (hl : I → Inv s → s.Lives n k e) (hOwn : s.adoptedBy p e = true) : SoundIf I s ((s.removeEntry n).lowerAdoptions p) := by
  have hState : e.state ≠ .orphan := fun h => absurd ((adoptedBy_iff.1 hOwn).1.symm.trans h) nofun
  have hKept : KeptIf I s ((s.removeEntry n).lowerAdoptions p) :=
    (keptIf_removeEntry hl fun _ _ => hState).trans (kept_lowerAdoptions ..).keptIf
  refine ⟨hKept, fun hI hi _ => (settled_removeEntry hi (hl hI hi) hState).of_eq, fun hI hi hc => ?_⟩
  obtain ⟨hFree, hStands⟩ := removeEntry_leaves hi.journal.indexWf n
  exact counted_lowerAdoptions hi (hKept.inv hI hi) (hl hI hi) hOwn (lowerAdoptions_parts (by simp) p)
    (fun m hm => (lowerAdoptions_entry ..).trans (entryAt_congr (hStands m hm).1 (hStands m hm).2))
    ((lowerAdoptions_entry ..).trans (entryAt_of_free hFree)) hc

theorem sound_runResolve (p : Port) (k : RegionKey) (w : SlotWear) (s : State) : Sound s (State.runResolve p k w s).2 := by
  unfold State.runResolve
  split
  · exact .refl s
  · next n hk =>
    dsimp only
    split
    · exact sound_lookupRead hk w
    · next e he =>
      split
      · next hOwn => exact (sound_lookupRead hk w).thenIf (soundIf_resolveEntry (fun hi _ => hi.lives_of_read hk he) hOwn)
      · exact sound_lookupRead hk w

/-! ADOPT -/

/-- An ORPHAN entry that a port adopts under its epoch. -/
theorem EntryOk.adopt {e : EntryBody} {c : Stamp} (h : EntryOk e c) (hs : e.state = .orphan) {a : Adopter} (ha : a.epoch ≠ 0#16) :
    EntryOk { e with state := .adopted, adopter := some a } c := by
  obtain ⟨hA, hB, -⟩ := h.orphan hs
  refine ⟨nofun, nofun, fun _ => ⟨hA, hB, rfl⟩, h.holds, fun b hb => ?_, h.note, h.stampless, h.stamped⟩
  obtain rfl := Option.some.inj hb
  exact ha

theorem keptIf_takeOrphan {I : Prop} {s : State} {p : Port} {k : RegionKey} {n : Nat} {e : EntryBody} (hOpen : s.isOpen p = true)
    (hl : I → Inv s → s.Lives n k e) (he : I → Inv s → e.state = .orphan) : KeptIf I s (s.takeOrphan p k n e) := by
  refine (keptIf_dropOrphan_bodyWrite (e' := { e with state := .adopted, adopter := some ⟨p, (s.session p).epoch⟩ }) hl
    (fun hI hi => ?_) (fun _ _ => rfl) nofun).trans (kept_raiseAdoptions (by simpa using hOpen)).keptIf
  exact (hi.journal.table.fields (hl hI hi)).adopt (he hI hi) ((hi.ports p).epoch hOpen)

theorem raiseAdoptions_session (s : State) (p q : Port) :
    (s.raiseAdoptions p).session q = if q = p then { s.session p with adoptions := (s.session p).adoptions + 1 } else s.session q := by
  rw [State.raiseAdoptions, session_eq, setSession_sessions, PerPort.get_set]
  rfl

theorem soundIf_takeOrphan {I : Prop} {s : State} {p : Port} {k : RegionKey} {n : Nat} {e : EntryBody} (hOpen : s.isOpen p = true)
    (hl : I → Inv s → s.Lives n k e) (he : I → Inv s → e.state = .orphan) : SoundIf I s (s.takeOrphan p k n e) := by
  refine ⟨keptIf_takeOrphan hOpen hl he, fun _ _ hs => ?_, fun hI hi hc q => ?_⟩
  · unfold State.takeOrphan
    exact hs.of_eq
  have hLives := hl hI hi
  obtain ⟨hA, hB, hAdopter⟩ := (hi.journal.table.fields hLives).orphan (he hI hi)
  have hNone := fun r => uncounted_of_entry hLives.2 (hold_none hA hB r) hAdopter
  have hLives' : (s.dropOrphan k).Lives n k e := hLives
  obtain ⟨hEntry, hOther⟩ := bodyWrite_leaves_entry hLives' { e with state := .adopted, adopter := some ⟨p, (s.session p).epoch⟩ }
  have hHere : (s.takeOrphan p k n e).entryAt n = some { e with state := .adopted, adopter := some ⟨p, (s.session p).epoch⟩ } := hEntry
  have hSession : (s.takeOrphan p k n e).session q =
      if q = p then { s.session p with adoptions := (s.session p).adoptions + 1 } else s.session q := by
    unfold State.takeOrphan
    rw [raiseAdoptions_session]
    simp
  obtain ⟨h1, h2⟩ := holdsLive_of_entry (p := q) hHere
  have hHold : (s.takeOrphan p k n e).holdsLive q n = s.holdsLive q n := by
    rw [(hNone q).1, h1]
    have : ({ e with state := .adopted, adopter := some ⟨p, (s.session p).epoch⟩ } : EntryBody).hold q = none := hold_none hA hB q
    rw [this]
    simp
  by_cases hq : q = p
  · subst hq
    rw [if_pos rfl] at hSession
    have hOpen' : (s.takeOrphan q k n e).isOpen q = s.isOpen q := by rw [State.isOpen, hSession]; rfl
    refine (hc q).change (hi.lt_of_lives hLives) hOpen' (by rw [hSession]) hOther (by rw [hHold, hSession]) ?_
    rw [(hNone q).2, h2, hOpen', hOpen, hSession]
    simp
  · rw [if_neg hq] at hSession
    refine (hc q).of_entry hSession hOther ⟨hHold, ?_⟩
    have hNot : ¬(p = q) := fun h => hq h.symm
    rw [(hNone q).2, h2]
    simp [hNot]

/-- The key at the head of the orphan list is that of an ORPHAN entry, which a read leaves ORPHAN if it leaves it at all. -/
theorem Inv.orphan_of_read {s : State} (h : Inv s) {o : Orphan} (ho : o ∈ s.journal.orphans) {n : Nat} (hk : s.lookup o.key = some n)
    {w : SlotWear} {e : EntryBody} (he : (s.readSlot n w).entryAt n = some e) : e.state = .orphan := by
  obtain ⟨m, f, hm, hf, -⟩ := (h.journal.table.listed o).1 ho
  have hKey := h.keyAt_of_lookup hk
  obtain ⟨-, -, g, hg, rfl⟩ := readSlot_lives h (h.lt_of_keyAt hKey) (h.lives_of_read hk he)
  have hOrphan : g.state = .orphan := by
    rcases hg with hg | rfl
    · obtain rfl := h.journal.table.keys hm hg
      obtain ⟨-, rfl⟩ := h.journal.table.single hm hg
      exact hf
    · rfl
  rw [converted_of_orphan _ hOrphan, hOrphan]

theorem attachedKept_takeOrphan (s : State) (p : Port) (k : RegionKey) (n : Nat) (e : EntryBody) :
    AttachedKept s (s.takeOrphan p k n e) := by
  unfold State.takeOrphan
  exact (AttachedKept.of_sessions (by simp)).trans (attachedKept_setCounts _ p _ _)

theorem soundIf_dropOrphan {I : Prop} {s : State} {k : RegionKey} (hFresh : I → Inv s → ∀ m f, ¬s.Lives m k f) :
    SoundIf I s (s.dropOrphan k) := (keptIf_dropOrphan hFresh).soundIf

theorem sound_dropOrphan {s : State} {k : RegionKey} (hFresh : Inv s → ∀ m f, ¬s.Lives m k f) : Sound s (s.dropOrphan k) :=
  SoundIf.sound (soundIf_dropOrphan fun _ => hFresh)

theorem sound_adoptLoop (p : Port) (fuel room : Nat) (ws : List SlotWear) (s : State) (hp : (s.session p).state = .attached) :
    Sound s (State.adoptLoop p fuel room ws s).2 := by
  induction fuel generalizing room ws s with
  | zero =>
    rw [State.adoptLoop]
    exact .refl s
  | succ fuel ih =>
    cases room with
    | zero => exact .refl s
    | succ room =>
      unfold State.adoptLoop
      split
      · exact .refl s
      · next o rest hList =>
        have ho : o ∈ s.journal.orphans := hList ▸ List.mem_cons_self ..
        split
        · next hk =>
          exact (sound_dropOrphan fun hi => hi.fresh_of_lookup hk).trans (ih _ _ _ hp)
        · next n hk =>
          have hRead := sound_lookupRead hk (ws.headD {})
          have hp' := attachedKept_readSlot s n (ws.headD {}) p hp
          dsimp only
          split
          · next he =>
            exact (hRead.thenIf (soundIf_dropOrphan fun hi _ => readSlot_fresh hi (hi.keyAt_of_lookup hk) he)).trans (ih _ _ _ hp')
          · next e he =>
            exact (hRead.thenIf (soundIf_takeOrphan (isOpen_of_attached hp') (fun hi _ => hi.lives_of_read hk he)
              fun hi _ => hi.orphan_of_read ho hk he)).trans (ih _ _ _ (attachedKept_takeOrphan _ p _ n e p hp'))

theorem attached_of_open {s : State} {p : Port} (h : s.isOpen p = true) (hDrain : (s.session p).state ≠ .draining) :
    (s.session p).state = .attached := by
  unfold State.isOpen at h
  cases hs : (s.session p).state with
  | attached => rfl
  | draining => exact absurd hs hDrain
  | detached => rw [hs] at h; cases h
  | lapsed => rw [hs] at h; cases h
  | fenced => rw [hs] at h; cases h

theorem sound_runAdopt {p : Port} (ws : List SlotWear) {s : State} (hOpen : s.isOpen p = true) :
    Sound s (State.runAdopt p ws s).2 := by
  unfold State.runAdopt
  split
  · exact .refl s
  split
  · exact .refl s
  · next hDrain => exact sound_adoptLoop p _ _ ws s (attached_of_open hOpen hDrain)

/-! Relocation (R167) -/

/-- The entry of slot `n` is written to slot `m`, and slot `n` freed (R167, steps 3 and 4). -/
def State.relinked (s : State) (n m : Nat) (k : RegionKey) (e : EntryBody) : State :=
  (((s.unlink n).entryWrite m k e).freeWrite n).lowerReserve

theorem relinked_frame (s : State) (n m : Nat) (k : RegionKey) (e : EntryBody) :
    s.relinked n m k e = { s with
      arbiter := s.arbiterWithout n
      journal := { s.journal with
        store := SlotMap.insert n freeSlot (SlotMap.insert m (entrySlot k e) s.journal.store)
        index := SlotMap.insert m { key := k, summary := e.summary } (SlotMap.erase n s.journal.index) }
      integrity := { s.integrity with reserve := s.integrity.reserve - 1 } } := rfl

/-- The entry of slot `n` stands in the head free slot `m`, before the tests for the block in progress. -/
def State.moved (s : State) (n m : Nat) (rest : List Nat) (k : RegionKey) (e : EntryBody) : State :=
  ((s.setJournal { s.journal with pool := rest }).lowWaterTest).relinked n m k e

theorem moveEntry_eq {s : State} {n m : Nat} {rest : List Nat} {a : Association} {e : EntryBody} (h : s.journal.pool = m :: rest) :
    s.moveEntry n a e = (s.moved n m rest a.key e).settle := by
  unfold State.moveEntry
  rw [h]
  rfl

theorem moved_frame (s : State) (n m : Nat) (rest : List Nat) (k : RegionKey) (e : EntryBody) :
    (s.moved n m rest k e).sessions = s.sessions ∧ (s.moved n m rest k e).arbiter = s.arbiterWithout n ∧
    (s.moved n m rest k e).journal = { s.journal with
      store := SlotMap.insert n freeSlot (SlotMap.insert m (entrySlot k e) s.journal.store)
      index := SlotMap.insert m { key := k, summary := e.summary } (SlotMap.erase n s.journal.index), pool := rest } ∧
    (s.moved n m rest k e).sweeper = s.sweeper ∧
    (s.moved n m rest k e).integrity = { s.integrity with reserve := s.integrity.reserve - 1 } ∧
    (s.moved n m rest k e).service = s.service ∧ (s.moved n m rest k e).faults = s.faults ∧
    (s.moved n m rest k e).resetCtl = s.resetCtl ∧ (s.moved n m rest k e).freeCount = s.freeCount ∧
    (s.moved n m rest k e).pending = s.pending := by
  unfold State.moved
  rw [relinked_frame]
  simp [State.arbiterWithout]

theorem moved_told (s : State) (n m : Nat) (rest : List Nat) (k : RegionKey) (e : EntryBody) :
    (s.moved n m rest k e).links = (s.setJournal { s.journal with pool := rest }).lowWaterTest.links ∧
    (s.moved n m rest k e).notices = (s.setJournal { s.journal with pool := rest }).lowWaterTest.notices ∧
    (s.moved n m rest k e).engine = (s.setJournal { s.journal with pool := rest }).lowWaterTest.engine := by
  unfold State.moved
  rw [relinked_frame]
  exact ⟨rfl, rfl, rfl⟩

theorem keptIf_moved {I : Prop} {s : State} {n m : Nat} {rest : List Nat} {k : RegionKey} {e : EntryBody}
    (hPool : s.journal.pool = m :: rest) (hl : I → Inv s → s.Lives n k e)
    (hHome : I → Inv s → (s.block (blockOf n)).state.inProgress = true) : KeptIf I s (s.moved n m rest k e) := by
  obtain ⟨hSessions, hArbiter, hJournal, hSweeper, hIntegrity, hService, hFaults, -, hFree, -⟩ := moved_frame s n m rest k e
  obtain ⟨hLinks, -, hEngine⟩ := moved_told s n m rest k e
  have hState : (s.moved n m rest k e).engine.state = s.engine.state := by rw [hEngine]; simp
  have hPos : (s.moved n m rest k e).engine.initPos = s.engine.initPos := by rw [hEngine]; simp
  have hJ : I → Inv s → JournalOk (s.moved n m rest k e) := fun hI hi =>
    hi.journal.move hPool (hl hI hi) (by rw [hJournal]) (by rw [hJournal]) (by rw [hJournal]) (by rw [hJournal]) (by rw [hJournal])
      hFree hState hPos
  refine .of_slots (fun ho => .of_links hLinks ((kept_lowWaterTest _).outbound (.of_links rfl ho)))
    (fun h => ?_) hJ (fun hI hi => ?_) (retiring_of_blocks (by rw [hIntegrity])) hSessions hFaults hService hSweeper
    (by rw [hIntegrity]) hState
  · have hWithout : EngineLaw { s with arbiter := s.arbiterWithout n } := h.arbiterWithout rfl
    exact hWithout.of_eq hState hPos (by rw [hEngine]; simp) (by rw [hIntegrity]) (by rw [hArbiter]) (by rw [hArbiter])
      (by rw [hArbiter]) (by rw [hService]) (by rw [hJournal]) (by rw [hJournal]) (by rw [hSweeper])
  · obtain ⟨a, ha, -, -⟩ := lives_iff.1 (hl hI hi)
    have hLive : s.assoc n ≠ none := assoc_ne_none ha
    -- the old slot first, then the new one
    let u : State := { s with
      journal := { s.journal with
        store := SlotMap.insert n freeSlot s.journal.store, index := SlotMap.erase n s.journal.index }
      integrity := { s.integrity with reserve := s.integrity.reserve - 1 } }
    have hu : SlotsOk u := hi.journal.toSlotsOk.erase hLive rfl rfl rfl rfl rfl rfl
    have hub : BlocksOk u := hi.blocks.erase hi.journal.toSlotsOk hu hLive rfl (by rw [if_pos (hHome hI hi)]) rfl rfl rfl rfl
    exact hub.create hu (hJ hI hi).toSlotsOk (n := m) (hPool ▸ List.mem_cons_self ..) (by rw [hJournal])
      (by rw [hJournal]; show rest.Sublist s.journal.pool; rw [hPool]; exact List.sublist_cons_self m rest) (by rw [hIntegrity])
      (by rw [hIntegrity]) (by rw [hIntegrity]) hState

/-- Two slots exchange what they count for. -/
theorem countP_range_swap {P Q : Nat → Bool} {n m N : Nat} (hn : n < N) (hm : m < N) (hne : m ≠ n)
    (hOther : ∀ i, i ≠ n → i ≠ m → P i = Q i) (hNew : P m = Q n) (hOld : P n = Q m) :
    (List.range N).countP P = (List.range N).countP Q := by
  -- between the two, with slot `n` changed alone
  have h1 := countP_range_change (P := P) (Q := fun i => if i = n then P n else Q i) hm fun i hi => by
    by_cases hin : i = n
    · simp [hin]
    · simp [hin, hOther i hin hi]
  have h2 := countP_range_change (P := fun i => if i = n then P n else Q i) (Q := Q) hn fun i hi => by simp [hi]
  simp only [hne, if_false, if_true] at h1 h2
  rw [hNew] at h1
  rw [← hOld] at h1
  omega

theorem moved_leaves {s : State} {n m : Nat} {rest : List Nat} {k : RegionKey} {e : EntryBody} (hw : s.journal.index.wf = true)
    (hne : m ≠ n) :
    (s.moved n m rest k e).entryAt m = some e ∧ (s.moved n m rest k e).entryAt n = none ∧
    ∀ i, i ≠ n → i ≠ m → (s.moved n m rest k e).entryAt i = s.entryAt i := by
  obtain ⟨-, -, hJournal, -, -, -, -, -, hFree, -⟩ := moved_frame s n m rest k e
  have hAssoc : ∀ i, (s.moved n m rest k e).assoc i =
      if i = m then some { key := k, summary := e.summary } else if i = n then none else s.assoc i := fun i => by
    rw [assoc_eq, assoc_eq, hJournal, SlotMap.find_insert, SlotMap.find_erase hw]
  have hStored : ∀ i, (s.moved n m rest k e).stored i = if i = n then freeSlot else if i = m then entrySlot k e else s.stored i := fun i => by
    rw [stored_eq, stored_eq, hJournal, hFree, SlotMap.find_insert, SlotMap.find_insert]
    split
    · rfl
    split
    · rfl
    · rfl
  refine ⟨entryAt_eq_some_iff.2 ⟨?_, ?_⟩, entryAt_of_free ?_, fun i hin him => entryAt_congr ?_ ?_⟩
  · rw [hAssoc, if_pos rfl]
    nofun
  · rw [hStored, if_neg hne, if_pos rfl]
    rfl
  · rw [hAssoc, if_neg (Ne.symm hne), if_pos rfl]
  · rw [hAssoc, if_neg him, if_neg hin]
  · rw [hStored, if_neg hin, if_neg him]

theorem soundIf_moveEntry {I : Prop} {s : State} {n : Nat} {a : Association} {e : EntryBody} (hl : I → Inv s → s.Lives n a.key e)
    (hHome : I → Inv s → (s.block (blockOf n)).state.inProgress = true) : SoundIf I s (s.moveEntry n a e) := by
  cases hPool : s.journal.pool with
  | nil =>
    have hSame : s.moveEntry n a e = s := by unfold State.moveEntry; rw [hPool]
    rw [hSame]
    exact (Sound.refl s).soundIf
  | cons m rest =>
    rw [moveEntry_eq hPool]
    refine (keptIf_moved hPool hl hHome).soundIf_settle fun hI hi hc p => ?_
    have hLives := hl hI hi
    have hm : m ∈ s.journal.pool := hPool ▸ List.mem_cons_self ..
    have hFree := hi.journal.poolFree m hm
    have hne : m ≠ n := fun he => by
      obtain ⟨b, hb, -, -⟩ := lives_iff.1 hLives
      rw [← he, hFree] at hb
      cases hb
    obtain ⟨hNew, hOld, hOther⟩ := moved_leaves (rest := rest) (k := a.key) (e := e) hi.journal.indexWf hne
    have hSession : ∀ q, (s.moved n m rest a.key e).session q = s.session q := fun q => by
      rw [session_eq, (moved_frame s n m rest a.key e).1]
      rfl
    have hOpen : (s.moved n m rest a.key e).isOpen p = s.isOpen p := by rw [State.isOpen, hSession]; rfl
    have hEpoch : ((s.moved n m rest a.key e).session p).epoch = (s.session p).epoch := by rw [hSession]
    obtain ⟨h1, h2⟩ := holdsLive_of_entry (p := p) hNew
    obtain ⟨h3, h4⟩ := holdsLive_of_entry (p := p) hLives.2
    have hGone : Uncounted (s.moved n m rest a.key e) p n := by simp only [Uncounted, State.holdsLive, State.adoptsLive, hOld, and_self]
    have hNone := uncounted_of_free hFree p
    have hStands := fun i hin him => holdsLive_congr (p := p) hOpen hEpoch (hOther i hin him)
    rw [PortCounted, hSession,
      countP_range_swap (hi.lt_of_lives hLives) (hi.journal.poolRange m hm) hne (fun i hin him => (hStands i hin him).1)
        (by rw [h1, h3, hOpen, hEpoch]) (hGone.1.trans hNone.1.symm),
      countP_range_swap (hi.lt_of_lives hLives) (hi.journal.poolRange m hm) hne (fun i hin him => (hStands i hin him).2)
        (by rw [h2, h4, hOpen, hEpoch]) (hGone.2.trans hNone.2.symm)]
    exact hc p

theorem lowestLive_some {s : State} {b n : Nat} (h : s.lowestLive b = some n) :
    blockOf n = b ∧ ∃ a, (n, a) ∈ s.journal.index := by
  unfold State.lowestLive at h
  obtain ⟨x, hx, rfl⟩ := Option.map_eq_some_iff.1 h
  exact ⟨of_decide_eq_true (List.find?_some (p := fun x : Nat × Association => decide (blockOf x.1 = b)) hx), x.2,
    List.mem_of_find?_eq_some hx⟩

/-- A block that is neither in service nor RETIRED is in progress. -/
theorem inProgress_of_states {st : BlockState} (h1 : st ≠ .inService) (h2 : st ≠ .retired) : st.inProgress = true := by
  cases st with
  | inService => exact absurd rfl h1
  | retired => exact absurd rfl h2
  | closing => rfl
  | moving => rfl

theorem sound_relocate {s : State} {b : Nat} (hb : s.inProgress = some b) (w : SlotWear) : Sound s (s.relocate b w) := by
  unfold State.relocate
  split
  · exact .refl s
  · next n hn =>
    obtain ⟨hHome, a, ha⟩ := lowestLive_some hn
    have hRead : Sound s (s.readSlot n w) :=
      sound_readSlot (fun hi => hi.journal.liveRange n (assoc_ne_none ((mem_index_iff hi.journal.indexWf).1 ha))) w
    dsimp only
    split
    · next a' e ha' he =>
      have hLives : (s.readSlot n w).Lives n a'.key e := ⟨by rw [State.keyAt, ha']; rfl, he⟩
      refine hRead.thenIf (soundIf_moveEntry (fun _ _ => hLives) fun _ hi => inProgress_of_states ?_ ?_)
      · refine hRead.retiring _ (not_inService_of_inProgress ?_)
        rw [hHome]
        exact inProgress_of_some hb
      · exact hi.blocks.liveHome n (assoc_ne_none ha')
    · exact hRead

end Sys2Proof.Machine
end

section
/-! PROOFS. What the part's own engines, the service requests, the timers and the link events keep. -/

-- The proofs are checked one after the other: run at once, their threads would exceed the memory bound of the check.
set_option Elab.async false

namespace Sys2Proof.Machine

/-! The sweeper and the scrubber -/

theorem kept_advanceSweep (s : State) : Kept s s.advanceSweep := by
  unfold State.advanceSweep
  refine ⟨.of_links rfl, fun h => ⟨h.ports, h.faults, h.settings, ?_, ?_, h.journal.of_eq, h.blocks.of_eq⟩, rfl, rfl, fun _ hb => hb⟩
  · obtain ⟨h1, h2, h3, h4, h5, h6, h7, -⟩ := h.engine
    exact ⟨h1, h2, h3, h4, h5, h6, h7, nofun⟩
  · exact ⟨Nat.mod_lt _ (by decide), h.positions.2.1, h.positions.2.2⟩

theorem sound_advanceSweep (s : State) : Sound s s.advanceSweep := (kept_advanceSweep s).sound rfl rfl rfl rfl rfl rfl rfl rfl

theorem sound_beginScrub {s : State} (h : s.running = true) : Sound s s.beginScrub :=
  ⟨kept_beginScrub h, fun hi hs => (sound_enterIfDue _).settled ((kept_scrubStart h).inv hi) hs.of_eq,
    fun _ hc p => (hc p).of_parts⟩

theorem kept_setScrubPosition (s : State) (n : Nat) (hn : n < 1024) :
    Kept s (s.setIntegrity { s.integrity with scrubPosition := n }) :=
  ⟨.of_links rfl, fun h => ⟨h.ports, h.faults, h.settings, h.engine, ⟨h.positions.1, h.positions.2.1, hn⟩, h.journal.of_eq,
    h.blocks.of_eq⟩, rfl, rfl, fun _ hb => hb⟩

/-! FREEZE and THAW (R127, R128) -/

theorem kept_setEngineState {s : State} {st : EngineState} (h0 : s.engine.state ≠ .initializing) (h1 : st ≠ .initializing) :
    Kept s (s.setEngine { s.engine with state := st }) := by
  refine ⟨.of_links rfl, fun h => ⟨fun p => ?_, h.faults, h.settings, ?_, h.positions, ?_, ?_⟩, rfl, rfl, fun _ hb => hb⟩
  · have hp := h.ports p
    exact ⟨hp.closed, hp.lapse, hp.drain, hp.epoch, hp.holdings, fun h => absurd h h1, hp.fence⟩
  · obtain ⟨a1, a2, a3, a4, a5, a6, a7, a8⟩ := h.engine
    refine ⟨iff_of_false h1 fun hp => h0 (a1.2 hp), fun hf => absurd (a2 hf) h0, fun _ => a3 h0, ?_, a5, a6, a7,
      fun hr => ⟨(a8 hr).1, h1⟩⟩
    refine a4.trans (and_congr_left' (iff_of_true h0 h1))
  · obtain ⟨⟨a1, a2, a3, a4, a5, a6, a7, a8, -⟩, a10⟩ := h.journal
    exact ⟨⟨a1, a2, a3, a4, a5, a6, a7, a8, fun h => absurd h h1⟩, a10⟩
  · obtain ⟨a1, a2, a3, -, a5⟩ := h.blocks
    exact ⟨a1, a2, a3, fun h => absurd h h1, a5⟩

theorem kept_setRememberedFreeze {s : State} (b : Bool) (h : s.engine.state = .initializing) :
    Kept s (s.setEngine { s.engine with rememberedFreeze := b }) := by
  refine ⟨.of_links rfl, fun hi => ⟨hi.ports, hi.faults, hi.settings, ?_, hi.positions, hi.journal.of_eq, hi.blocks.of_eq⟩, rfl, rfl,
    fun _ hb => hb⟩
  obtain ⟨a1, -, a3, a4, a5, a6, a7, a8⟩ := hi.engine
  exact ⟨a1, fun _ => h, a3, a4, a5, a6, a7, a8⟩

theorem sound_runFreeze (s : State) : Sound s (State.runFreeze s).2 := by
  unfold State.runFreeze
  split
  · next h =>
    have hKept := kept_setEngineState (st := .frozen) (by rw [h]; nofun) nofun
    exact .trans ⟨hKept, (fun _ _ hr => nomatch hr), fun _ hc p => (hc p).of_parts⟩ (sound_raiseBoth ..)
  · exact .refl s
  · next h =>
    split
    · exact .refl s
    · exact (kept_setRememberedFreeze true h).sound

theorem sound_runThaw (s : State) : Sound s (State.runThaw s).2 := by
  unfold State.runThaw
  split
  · next h =>
    exact SoundIf.sound (((kept_setEngineState (st := .ready) (by rw [h]; nofun) nofun).trans (kept_raiseBoth ..)).keptIf.soundIf_settle
      fun _ _ hc p => (hc p).of_parts)
  · exact .refl s
  · next h =>
    split
    · exact (kept_setRememberedFreeze false h).sound
    · exact .refl s

theorem sound_runRetireBlock (b : Nat) (s : State) : Sound s (State.runRetireBlock b s).2 := by
  unfold State.runRetireBlock
  split
  · exact .refl s
  split
  · exact .refl s
  split
  · exact .refl s
  split
  · exact .refl s
  · next hRange _ _ => exact (SoundIf.sound (soundIf_queueBlock fun _ _ => Nat.not_le.1 hRange)).trans (sound_enterIfDue _)

theorem sound_runReadSlot (n : Nat) (w : SlotWear) (s : State) : Sound s (State.runReadSlot n w s).2 := by
  unfold State.runReadSlot
  split
  · exact .refl s
  split
  · exact .refl s
  · next hRange => exact sound_readRaw (fun _ => Nat.not_le.1 hRange) w

/-! The initialiser (R124) -/

theorem settled_of_idle {s : State} (h : s.inProgress = none) : Settled s := fun _ _ hb => absurd (h.symm.trans hb) nofun

/-- The position moves within the slots. -/
theorem kept_setInitPos {s : State} (hs : s.engine.state = .initializing) (hn : s.engine.initPos + 1 < 1024) :
    Kept s (s.setEngine { s.engine with initPos := s.engine.initPos + 1 }) := by
  refine ⟨.of_links rfl, fun h => ⟨h.ports, h.faults, h.settings, ?_, h.positions, ?_, h.blocks.of_eq⟩, rfl, rfl, fun _ hb => hb⟩
  · obtain ⟨-, a2, a3, a4, a5, a6, a7, a8⟩ := h.engine
    exact ⟨iff_of_true hs hn, a2, a3, a4, a5, a6, a7, a8⟩
  · obtain ⟨⟨a1, a2, a3, a4, a5, a6, a7, a8, a9⟩, a10⟩ := h.journal
    exact ⟨⟨a1, a2, a3, a4, a5, a6, a7, a8, fun hi => ⟨(a9 hi).1, fun n hn => Nat.lt_succ_of_lt ((a9 hi).2 n hn)⟩⟩, a10⟩

/-- The scrub pace timer that a pace setting starts (R131). -/
def paceTimer (pace : Nat) : Option Nat := if pace = 0 then none else some pace

theorem paceTimer_isSome (pace : Nat) : (paceTimer pace).isSome = true ↔ pace ≠ 0 := by
  unfold paceTimer
  split <;> simp [*]

/-- The end of initialisation, but for its notice. -/
def State.initOver (s : State) (st : EngineState) : State :=
  { s with
    engine := { s.engine with state := st, rememberedFreeze := false }
    arbiter := { s.arbiter with scrubTimer := paceTimer s.settings.scrubPace }
    integrity := { s.integrity with leakTimer := some (s.integrity.leakTimer.getD (s.settings.leakPeriod * 1000)) } }

theorem endInitialisation_eq (s : State) : s.endInitialisation =
    if s.engine.rememberedFreeze = true
    then (s.initOver .frozen).raiseBoth .freezeChanged (some (wordOf EngineState.frozen.code)) else s.initOver .ready := by
  unfold State.endInitialisation
  cases s.engine.rememberedFreeze <;> rfl

/-- The initialiser's position moves past the last slot, and initialisation ends, but for its notice. -/
def State.initEnded (s : State) (st : EngineState) : State :=
  (s.setEngine { s.engine with initPos := s.engine.initPos + 1 }).initOver st

theorem advanceInit_eq (s : State) : s.advanceInit =
    if 1024 ≤ s.engine.initPos + 1 then
      if s.engine.rememberedFreeze = true
      then (s.initEnded .frozen).raiseBoth .freezeChanged (some (wordOf EngineState.frozen.code)) else s.initEnded .ready
    else s.setEngine { s.engine with initPos := s.engine.initPos + 1 } := by
  unfold State.advanceInit
  exact congrArg (fun x => if 1024 ≤ s.engine.initPos + 1 then x else s.setEngine { s.engine with initPos := s.engine.initPos + 1 })
    (endInitialisation_eq _)

theorem kept_initEnded {s : State} {st : EngineState} (hs : s.engine.state = .initializing) (hn : 1024 ≤ s.engine.initPos + 1)
    (hst : st ≠ .initializing) : Kept s (s.initEnded st) := by
  refine ⟨.of_links rfl, fun h => ⟨fun p => ?_, h.faults, h.settings, ?_, h.positions, ?_, ?_⟩, rfl, rfl, fun _ hb => hb⟩
  · have hp := h.ports p
    exact ⟨hp.closed, hp.lapse, hp.drain, hp.epoch, hp.holdings, fun h => absurd h hst, hp.fence⟩
  · obtain ⟨-, -, -, a4, -, a6, a7, a8⟩ := h.engine
    have hDue : s.arbiter.scrubDue ≠ true := fun hd => (a4.1 (.inr hd)).1 hs
    refine ⟨iff_of_false hst (Nat.not_lt.2 hn), nofun, fun _ => rfl, ?_, fun ⟨_, hd⟩ => hDue hd, a6, a7, fun hr => absurd hs (a8 hr).2⟩
    show ((paceTimer s.settings.scrubPace).isSome = true ∨ s.arbiter.scrubDue = true) ↔ st ≠ .initializing ∧ s.settings.scrubPace ≠ 0
    rw [paceTimer_isSome]
    exact ⟨fun h => ⟨hst, h.resolve_right hDue⟩, fun h => .inl h.2⟩
  · obtain ⟨⟨a1, a2, a3, a4, a5, a6, a7, a8, -⟩, a10⟩ := h.journal
    exact ⟨⟨a1, a2, a3, a4, a5, a6, a7, a8, fun h => absurd h hst⟩, a10⟩
  · obtain ⟨a1, a2, a3, -, a5⟩ := h.blocks
    exact ⟨a1, a2, a3, fun h => absurd h hst, a5⟩

theorem kept_advanceInit {s : State} (hs : s.engine.state = .initializing) : Kept s s.advanceInit := by
  rw [advanceInit_eq]
  split
  · next hn =>
    split
    · exact (kept_initEnded (st := .frozen) hs hn nofun).trans (kept_raiseBoth ..)
    · exact kept_initEnded (st := .ready) hs hn nofun
  · next hn => exact kept_setInitPos hs (Nat.not_le.1 hn)

/-- What the position's advance leaves alone. -/
theorem advanceInit_frame (s : State) :
    s.advanceInit.sessions = s.sessions ∧ s.advanceInit.journal = s.journal ∧ s.advanceInit.sweeper = s.sweeper ∧
    s.advanceInit.integrity.blocks = s.integrity.blocks ∧ s.advanceInit.integrity.retireQueue = s.integrity.retireQueue ∧
    s.advanceInit.integrity.reserve = s.integrity.reserve ∧ s.advanceInit.integrity.scrubPosition = s.integrity.scrubPosition ∧
    s.advanceInit.service = s.service ∧ s.advanceInit.faults = s.faults ∧ s.advanceInit.resetCtl = s.resetCtl ∧
    s.advanceInit.freeCount = s.freeCount ∧ s.advanceInit.pending = s.pending ∧ s.advanceInit.engine.initPos = s.engine.initPos + 1 ∧
    s.advanceInit.engine.armed = s.engine.armed := by
  rw [advanceInit_eq]
  split
  · split
    · simp [State.initEnded, State.initOver]
    · exact ⟨rfl, rfl, rfl, rfl, rfl, rfl, rfl, rfl, rfl, rfl, rfl, rfl, rfl, rfl⟩
  · exact ⟨rfl, rfl, rfl, rfl, rfl, rfl, rfl, rfl, rfl, rfl, rfl, rfl, rfl, rfl⟩

/-- The advance reads the initialiser's own parts, the settings, and the leak timer. -/
theorem advanceInit_of_parts {s t : State} (h1 : t.engine.rememberedFreeze = s.engine.rememberedFreeze := by simp)
    (h2 : t.engine.initPos = s.engine.initPos := by simp) (h3 : t.engine.state = s.engine.state := by simp)
    (h4 : t.arbiter = s.arbiter := by simp) (h5 : t.integrity = s.integrity := by simp) (h6 : t.service = s.service := by simp) :
    t.advanceInit.engine.state = s.advanceInit.engine.state ∧
    t.advanceInit.engine.rememberedFreeze = s.advanceInit.engine.rememberedFreeze ∧
    t.advanceInit.arbiter = s.advanceInit.arbiter ∧ t.advanceInit.integrity = s.advanceInit.integrity := by
  have hSettings : t.service.settings = s.service.settings := by rw [h6]
  rw [advanceInit_eq, advanceInit_eq, h1, h2]
  split
  · split
    · simp [State.initEnded, State.initOver, h4, h5, hSettings]
    · simp [State.initEnded, State.initOver, h4, h5, hSettings]
  · simp [h1, h3, h4, h5]

/-- While INITIALIZING no session is open, no slot is live, and no block is in progress. -/
theorem sound_of_starting {s t : State} (hs : s.engine.state = .initializing) (h : Kept s t) (h0 : t.sessions = s.sessions := by simp)
    (h1 : t.integrity.blocks = s.integrity.blocks := by simp) : Sound s t := by
  refine ⟨h, fun hi _ => settled_of_idle ((inProgress_of_blocks h1).trans (hi.blocks.starting hs)), fun hi _ p =>
    portCounted_of_closed (h.inv hi) ?_⟩
  rw [State.isOpen, session_eq, h0]
  exact (hi.ports p).starting hs

theorem sound_advanceInit {s : State} (hs : s.engine.state = .initializing) : Sound s s.advanceInit :=
  sound_of_starting hs (kept_advanceInit hs) (advanceInit_frame s).1 (advanceInit_frame s).2.2.2.1

theorem inService_of_starting {s : State} (h : BlocksOk s) (hs : s.engine.state = .initializing) {b : Nat}
    (hb : (s.block b).state ≠ .retired) : (s.block b).state = .inService := by
  refine Classical.byContradiction fun hne => ?_
  have := inProgress_eq_none_iff.1 (h.starting hs) b
  rw [inProgress_of_states hne hb] at this
  cases this

theorem SlotsOk.free_of_starting {s : State} (h : SlotsOk s) (hs : s.engine.state = .initializing) (n : Nat) : s.assoc n = none :=
  Decidable.not_not.1 fun hne => h.not_starting hne hs

theorem poolSlot_pool (s : State) (n : Nat) : (s.poolSlot n).journal.pool = s.journal.pool ++ [n] := by
  unfold State.poolSlot
  simp

/-- The pooling and the advance commute but for the re-arm test, which tells nothing to the laws. -/
theorem kept_poolInit {s : State} (hs : s.engine.state = .initializing) (hn : s.engine.initPos < 1024)
    (hHome : (s.block (blockOf s.engine.initPos)).state ≠ .retired) : Kept s (s.poolSlot s.engine.initPos).advanceInit := by
  obtain ⟨hSessions, hJournal, hSweeper, hBlocks, -, -, -, hService, hFaults, -, hFree, -, hPos, -⟩ := advanceInit_frame s
  obtain ⟨gSessions, gJournal, gSweeper, gBlocks, -, -, -, gService, gFaults, -, gFree, -, gPos, -⟩ :=
    advanceInit_frame (s.poolSlot s.engine.initPos)
  obtain ⟨hState, hRemembered, hArbiter, hIntegrity⟩ := advanceInit_of_parts (s := s) (t := s.poolSlot s.engine.initPos)
  have hPooled : ∀ hi : Inv s, Inv (s.advanceInit.poolSlot s.engine.initPos) := fun hi => by
    have hi' := (kept_advanceInit hs).inv hi
    refine (kept_poolSlot (fun _ => hn) (fun _ => ?_) (fun _ => ?_) (fun _ _ => ?_) fun _ => ?_).inv hi'
    · rw [assoc_eq, hJournal]
      exact hi.journal.free_of_starting hs _
    · rw [hJournal]
      exact fun hm => Nat.lt_irrefl _ ((hi.journal.starting hs).2 _ hm)
    · rw [hPos]
      exact Nat.lt_succ_self _
    · rw [block_eq, Integrity.block, hBlocks]
      exact inService_of_starting hi.blocks hs hHome
  refine ⟨fun ho => (kept_advanceInit (s := s.poolSlot s.engine.initPos) (by simpa using hs)).outbound
    ((kept_rearmTest (s.setJournal _)).outbound (.of_links rfl ho)), fun hi => ?_, by rw [gService]; simp, by rw [gService]; simp,
    retiring_of_blocks (by rw [gBlocks]; simp)⟩
  refine (hPooled hi).of_eq ?_ ?_ ?_ ?_ ?_ ?_ ?_ ?_ ?_ ?_ ?_ ?_ ?_ ?_ ?_ ?_ ?_ ?_ <;>
    simp [poolSlot_pool, gSessions, hSessions, gJournal, hJournal, gSweeper, hSweeper, gService, hService, gFaults, hFaults, gFree, hFree, gPos, hPos,
      hState, hRemembered, hArbiter, hIntegrity]

theorem sound_writeInit {s : State} (hs : s.engine.state = .initializing) (hn : s.engine.initPos < 1024)
    (hHome : (s.block (blockOf s.engine.initPos)).state ≠ .retired) :
    Sound s ((s.freeWrite s.engine.initPos).poolSlot s.engine.initPos).advanceInit := by
  have hWrite : Kept s (s.freeWrite s.engine.initPos) :=
    KeptIf.kept (soundIf_freeWrite s (fun _ _ => hn) fun _ hi => hi.journal.free_of_starting hs _).toKeptIf
  obtain ⟨hSessions, -, -, hBlocks, -⟩ := advanceInit_frame ((s.freeWrite s.engine.initPos).poolSlot s.engine.initPos)
  refine sound_of_starting hs (hWrite.trans (kept_poolInit (s := s.freeWrite s.engine.initPos) hs hn ?_)) ?_ ?_
  · simpa using hHome
  · rw [hSessions]
    simp
  · rw [hBlocks]
    simp

/-! The grants of the part's own engines -/

theorem hasWork_of_grant {s : State} {pl : Place} (h : s.nextGrant = some (.place pl)) : s.hasWork pl = true := by
  unfold State.nextGrant at h
  dsimp only at h
  split at h
  · cases h
  · obtain ⟨q, hq, h⟩ := Option.map_eq_some_iff.1 h
    cases h
    exact List.find?_some hq

theorem running_of_scrubGrant {s : State} (h : s.nextGrant = some .scrubber) : s.running = true := by
  unfold State.nextGrant at h
  dsimp only at h
  split at h
  · next hDue => exact (Bool.and_eq_true_iff.1 (Bool.and_eq_true_iff.1 hDue).1).2
  · obtain ⟨q, -, h⟩ := Option.map_eq_some_iff.1 h
    cases h

theorem enterIfDue_of_starting {s : State} (h : s.engine.state = .initializing) : s.enterIfDue = s := by
  have : s.closingDue = false := by simp [State.closingDue, h]
  unfold State.enterIfDue
  rw [this]
  rfl

end Sys2Proof.Machine
end

section
/-! PROOFS. What an event keeps as a whole: the laws that hold within an event, and the three that an event may break and mends. -/

-- The proofs are checked one after the other: run at once, their threads would exceed the memory bound of the check.
set_option Elab.async false

namespace Sys2Proof.Machine

/-- R176: the service port is BUSY exactly while a request waits for its grant. -/
def BusyLaw (s : State) : Prop := s.service.target = .busy ↔ s.service.inProgress.isSome = true

/-- An event, from its start to its end, keeps each law. -/
structure EventOk (s t : State) : Prop where
  outbound : OutboundLaw s → OutboundLaw t
  inv : Inv s → Inv t
  settled : Inv s → Settled s → Settled t
  counted : Inv s → EpochsFresh s → (∀ p, PortCounted s p) → ∀ p, PortCounted t p
  busy : BusyLaw s → BusyLaw t
  notice : NoticeLaw s → NoticeLaw t

theorem EventOk.refl (s : State) : EventOk s s := ⟨id, id, fun _ h => h, fun _ _ h => h, id, id⟩

/-! The end of an event (R144) -/

theorem judgeRepeat_notices (s : State) :
    s.judgeRepeat.notices.flags = s.notices.flags ∧ s.judgeRepeat.notices.held = s.notices.held ∧
    s.judgeRepeat.notices.repeatTimer.isSome = s.repeatCondition := by
  unfold State.judgeRepeat
  cases hc : s.repeatCondition with
  | false => simp
  | true =>
    cases ht : s.notices.repeatTimer with
    | none => simp
    | some n => simp [ht]

theorem repeatCondition_congr {s t : State} (hOpen : ∀ p, t.isOpen p = s.isOpen p) (hFlags : t.notices.flags = s.notices.flags) :
    t.repeatCondition = s.repeatCondition := by
  unfold State.repeatCondition
  rw [hOpen, hOpen, hFlags]

/-- Judged, the repeat timer runs exactly under its condition, whatever it did before. -/
theorem noticeLaw_judgeRepeat {s : State} (h : s.notices.held = none) : NoticeLaw s.judgeRepeat := by
  obtain ⟨hFlags, hHeld, hTimer⟩ := judgeRepeat_notices s
  refine ⟨?_, hHeld.trans h⟩
  rw [hTimer, ← repeatCondition_congr (s := s) (t := s.judgeRepeat) (fun p => by simp) hFlags]
  exact repeatCondition_iff _

theorem noticeLaw_finish (s : State) : NoticeLaw s.finish :=
  noticeLaw_judgeRepeat (by simp [State.releaseNotices])

/-- An event that leaves the flags, the waiting raises and the openness of the sessions, and neither starts nor stops the repeat
timer. -/
theorem NoticeLaw.of_quiet {s t : State} (h : NoticeLaw s) (hOpen : ∀ p, t.isOpen p = s.isOpen p)
    (h1 : t.notices.flags = s.notices.flags) (h2 : t.notices.held = s.notices.held)
    (h3 : t.notices.repeatTimer.isSome = s.notices.repeatTimer.isSome) : NoticeLaw t := by
  unfold NoticeLaw
  simp only [hOpen, h1, h2, h3]
  exact h

theorem Sound.busy {s t : State} (h : Sound s t) (hs : BusyLaw s) : BusyLaw t := by
  unfold BusyLaw
  rw [h.target, h.waiting]
  exact hs

/-- An event that ends with its notices. -/
theorem Sound.finished {s t : State} (h : Sound s t) : EventOk s t.finish :=
  have hf := h.trans (sound_finish t)
  ⟨hf.outbound, hf.inv, hf.settled, fun hi _ => hf.counted hi, hf.busy, fun _ => noticeLaw_finish t⟩

/-- An event without a notice. -/
theorem Sound.quiet {s t : State} (h : Sound s t) (hOpen : ∀ p, t.isOpen p = s.isOpen p)
    (h1 : t.notices.flags = s.notices.flags) (h2 : t.notices.held = s.notices.held)
    (h3 : t.notices.repeatTimer.isSome = s.notices.repeatTimer.isSome) : EventOk s t :=
  ⟨h.outbound, h.inv, h.settled, fun hi _ => h.counted hi, h.busy, fun hn => hn.of_quiet hOpen h1 h2 h3⟩

theorem isOpen_of_sessions {s t : State} (h : t.sessions = s.sessions) (p : Port) : t.isOpen p = s.isOpen p := by
  rw [State.isOpen, State.isOpen, session_eq, session_eq, h]

/-- An event that touches neither the sessions nor the notice unit. -/
theorem Sound.silent {s t : State} (h : Sound s t) (h1 : t.sessions = s.sessions := by simp) (h2 : t.notices = s.notices := by simp) :
    EventOk s t :=
  h.quiet (isOpen_of_sessions h1) (by rw [h2]) (by rw [h2]) (by rw [h2])

/-! The part's own grants -/

theorem eventOk_sweepStep {w : SlotWear} {s t : State} (h : execSweepStep w s = .next t) : EventOk s t := by
  obtain rfl := Host.Outcome.next.inj h
  split
  · refine Sound.finished (.trans (.trans (sound_beginGrant s .sweeper) ?_) (sound_advanceSweep _))
    split
    · exact sound_readSlot (fun hi => hi.positions.1) w
    · exact .refl _
  · exact .refl s

theorem eventOk_sweepAdvance {s t : State} (h : execSweepAdvance s = .next t) : EventOk s t := by
  obtain rfl := Host.Outcome.next.inj h
  split
  · exact (sound_advanceSweep s).silent rfl rfl
  · exact .refl s

theorem scrubSlot_lt {s : State} (h : s.integrity.scrubPosition < 1024) : s.scrubSlot < 1024 := by
  unfold State.scrubSlot
  dsimp only
  split
  · split
    · next b hb =>
      obtain ⟨i, -, rfl⟩ := List.mem_map.1 (List.mem_of_find?_eq_some hb)
      have : (blockOf s.integrity.scrubPosition + 1 + i) % 16 < 16 := Nat.mod_lt _ (by decide)
      exact Nat.mul_lt_mul_of_pos_right this (by decide : 0 < 64)
    · exact h
  · exact h

theorem eventOk_scrubRead {w : SlotWear} {s t : State} (h : execScrubRead w s = .next t) : EventOk s t := by
  obtain rfl := Host.Outcome.next.inj h
  split
  · next h =>
    refine Sound.finished (.trans (.trans (sound_beginScrub (running_of_scrubGrant h))
      (sound_readSlot (fun hi => scrubSlot_lt hi.positions.2.2) w)) (kept_setScrubPosition _ _ (Nat.mod_lt _ (by decide))).sound)
  · exact .refl s

theorem eventOk_relocationMove {w : SlotWear} {s t : State} (h : execRelocationMove w s = .next t) : EventOk s t := by
  obtain rfl := Host.Outcome.next.inj h
  split
  · dsimp only
    split
    · next b hb => exact Sound.finished ((sound_beginGrant s .relocator).trans (sound_relocate hb w))
    · exact Sound.finished (sound_beginGrant s .relocator)
  · exact .refl s

theorem eventOk_initialiserWrite {s t : State} (h : execInitialiserWrite s = .next t) : EventOk s t := by
  obtain rfl := Host.Outcome.next.inj h
  split
  · next h =>
    have hWork := hasWork_of_grant h
    simp only [State.hasWork, Bool.and_eq_true, decide_eq_true_eq, Bool.not_eq_true', State.blockRetired, decide_eq_false_iff_not] at hWork
    obtain ⟨⟨hState, hPos⟩, hHome⟩ := hWork
    have hBegin : s.beginGrant .initialiser = s.setArbiter { s.arbiter with pointer := .initialiser, lastWasScrub := false } :=
      enterIfDue_of_starting hState
    dsimp only
    rw [hBegin]
    refine Sound.finished (.trans ((sound_setPointer s .initialiser false).trans ?_) (sound_enterIfDue _))
    exact sound_writeInit (s := s.setArbiter { s.arbiter with pointer := .initialiser, lastWasScrub := false }) hState hPos hHome
  · exact .refl s

theorem eventOk_initialiserAdvance {s t : State} (h : execInitialiserAdvance s = .next t) : EventOk s t := by
  obtain rfl := Host.Outcome.next.inj h
  split
  · next h => exact (sound_advanceInit h.1).finished
  · exact .refl s

end Sys2Proof.Machine
end

section
/-! PROOFS. What a queued frame spells (R27, R62, R133): the classification as one table of kind codes and payloads. -/

-- The proofs are checked one after the other: run at once, their threads would exceed the memory bound of the check.
set_option Elab.async false

namespace Sys2Proof.Machine

/-- The kind code under which a request is spelled. -/
def PeerRequest.code : PeerRequest → Byte
  | .bad => 0x00 | .attach _ => 0x01 | .detachGraceful => 0x02 | .detachAbrupt => 0x02 | .pulse => 0x03
  | .openIntent .. => 0x10 | .closeIntent _ => 0x11 | .query _ => 0x12 | .adopt => 0x20 | .resolve _ => 0x21
  | .clearMark => 0x30 | .fencePeer => 0x31 | .ackNotice _ => 0x40 | .status => 0x41

/-- The words that spell a key. -/
def RegionKey.words (k : RegionKey) : List Word := [k.volume.setWidth 32, k.region]

/-- The payload that spells a request. -/
def PeerRequest.words : PeerRequest → List Word
  | .bad => [] | .attach i => [i] | .detachGraceful => [1] | .detachAbrupt => [2] | .pulse => []
  | .openIntent k note => RegionKey.words k ++ note | .closeIntent k => RegionKey.words k | .query k => RegionKey.words k | .adopt => []
  | .resolve k => RegionKey.words k | .clearMark => [] | .fencePeer => [] | .ackNotice k => [k.code.setWidth 32] | .status => []

/-- The note of an OPEN has at most two words. -/
def PeerRequest.short : PeerRequest → Prop
  | .openIntent _ note => note.length ≤ 2
  | .bad | .attach _ | .detachGraceful | .detachAbrupt | .pulse | .closeIntent _ | .query _ | .adopt | .resolve _ | .clearMark
  | .fencePeer | .ackNotice _ | .status => True

theorem keyOf_eq_some_iff {v r : Word} {k : RegionKey} : keyOf v r = some k ↔ [v, r] = RegionKey.words k := by
  obtain ⟨volume, region⟩ := k
  unfold keyOf RegionKey.words
  split
  · next h =>
    simp only [Option.some.injEq, RegionKey.mk.injEq, List.cons.injEq, and_true]
    refine and_congr_left fun _ => ⟨?_, ?_⟩
    · rintro rfl
      bv_omega
    · rintro rfl
      bv_omega
  · next h =>
    simp only [List.cons.injEq, and_true, reduceCtorEq, false_iff, not_and]
    rintro rfl
    bv_omega

theorem noticeOfCode_eq_some_iff {c : Word} {k : NoticeKind} : NoticeKind.ofCode c = some k ↔ c = k.code.setWidth 32 := by
  constructor
  · intro h
    unfold NoticeKind.ofCode at h
    split at h
    case h_11 => cases h
    all_goals
      next hc =>
      obtain rfl := Option.some.inj h
      exact BitVec.eq_of_toNat_eq hc
  · rintro rfl
    cases k <;> rfl

theorem attachRequest_eq_iff {l : List Word} {x : PeerRequest} (h : x ≠ .bad) :
    attachRequest l = x ↔ ∃ i, l = [i] ∧ x = .attach i := by
  unfold attachRequest
  split
  · next i => exact ⟨fun h => ⟨i, rfl, h.symm⟩, fun ⟨_, hi, hx⟩ => hx ▸ (List.singleton_inj.1 hi) ▸ rfl⟩
  · next hl => exact ⟨fun hb => absurd hb.symm h, fun ⟨i, hi, _⟩ => absurd hi (hl i)⟩

theorem bareRequest_eq_iff {y : PeerRequest} {l : List Word} {x : PeerRequest} (h : x ≠ .bad) :
    bareRequest y l = x ↔ l = [] ∧ x = y := by
  unfold bareRequest
  split
  · exact ⟨fun h => ⟨rfl, h.symm⟩, fun h => h.2.symm⟩
  · next hl => exact ⟨fun hb => absurd hb.symm h, fun hb => absurd hb.1 hl⟩

theorem detachRequest_eq_iff {l : List Word} {x : PeerRequest} (h : x ≠ .bad) :
    detachRequest l = x ↔ (l = [1] ∧ x = .detachGraceful) ∨ (l = [2] ∧ x = .detachAbrupt) := by
  unfold detachRequest
  split
  · next m =>
    split
    · next hm => simp [hm, eq_comm]
    · next hm =>
      split
      · next hm' => simp [hm', eq_comm]
      · next hm' => simp [hm, hm', h.symm]
  · next hl => exact ⟨fun hb => absurd hb.symm h, fun hb => by rcases hb with ⟨hb, -⟩ | ⟨hb, -⟩ <;> exact absurd hb (hl _)⟩

theorem keyRequest_eq_iff {f : RegionKey → PeerRequest} {l : List Word} {x : PeerRequest} (h : x ≠ .bad) :
    keyRequest f l = x ↔ ∃ k, l = RegionKey.words k ∧ x = f k := by
  unfold keyRequest
  split
  · next v r =>
    cases hk : keyOf v r with
    | some k =>
      refine ⟨fun he => ⟨k, keyOf_eq_some_iff.1 hk, he.symm⟩, fun ⟨l, hl, he⟩ => ?_⟩
      have := keyOf_eq_some_iff.2 hl
      rw [he, Option.some.inj (hk.symm.trans this)]
    | none =>
      refine ⟨fun hb => absurd hb.symm h, fun ⟨l, hl, _⟩ => ?_⟩
      have := keyOf_eq_some_iff.2 hl
      rw [hk] at this
      cases this
  · next hl => exact ⟨fun hb => absurd hb.symm h, fun ⟨k, hk, _⟩ => absurd hk (hl _ _)⟩

theorem ackRequest_eq_iff {l : List Word} {x : PeerRequest} (h : x ≠ .bad) :
    ackRequest l = x ↔ ∃ k : NoticeKind, l = [k.code.setWidth 32] ∧ x = .ackNotice k := by
  unfold ackRequest
  split
  · next c =>
    cases hk : NoticeKind.ofCode c with
    | some k =>
      refine ⟨fun he => ⟨k, by rw [noticeOfCode_eq_some_iff.1 hk], he.symm⟩, fun ⟨l, hl, he⟩ => ?_⟩
      have := noticeOfCode_eq_some_iff.2 (List.singleton_inj.1 hl)
      rw [he, Option.some.inj (hk.symm.trans this)]
    | none =>
      refine ⟨fun hb => absurd hb.symm h, fun ⟨l, hl, _⟩ => ?_⟩
      have := noticeOfCode_eq_some_iff.2 (List.singleton_inj.1 hl)
      rw [hk] at this
      cases this
  · next hl => exact ⟨fun hb => absurd hb.symm h, fun ⟨k, hk, _⟩ => absurd hk (hl _)⟩

theorem openRequest_eq_iff {l : List Word} {x : PeerRequest} (h : x ≠ .bad) :
    openRequest l = x ↔ ∃ k note, note.length ≤ 2 ∧ l = RegionKey.words k ++ note ∧ x = .openIntent k note := by
  unfold openRequest
  split
  · next v r note =>
    split
    · next hNote =>
      cases hk : keyOf v r with
      | some k =>
        have hWords := keyOf_eq_some_iff.1 hk
        refine ⟨fun he => ⟨k, note, hNote, by rw [← hWords]; rfl, he.symm⟩, fun ⟨l, m, _, hl, he⟩ => ?_⟩
        obtain ⟨hl', rfl⟩ := List.append_inj (s₁ := [v, r]) hl rfl
        rw [he, Option.some.inj (hk.symm.trans (keyOf_eq_some_iff.2 hl'))]
      | none =>
        refine ⟨fun hb => absurd hb.symm h, fun ⟨l, m, _, hl, _⟩ => ?_⟩
        have := keyOf_eq_some_iff.2 (List.append_inj (s₁ := [v, r]) hl rfl).1
        rw [hk] at this
        cases this
    · next hNote =>
      refine ⟨fun hb => absurd hb.symm h, fun ⟨l, m, hm, hl, _⟩ => ?_⟩
      obtain ⟨-, rfl⟩ := List.append_inj (s₁ := [v, r]) hl rfl
      exact absurd hm hNote
  · next hl => exact ⟨fun hb => absurd hb.symm h, fun ⟨k, note, _, hk, _⟩ => absurd hk (hl _ _ _)⟩

/-- R133: a frame spells a request exactly by its kind code and payload. -/
theorem classify_eq_iff {r : Request} {x : PeerRequest} (h : x ≠ .bad) :
    r.classify = x ↔ r.kind = x.code ∧ r.payload = x.words ∧ x.short := by
  constructor
  · intro hx
    unfold Request.classify at hx
    split at hx
    case h_13 => exact absurd hx.symm h
    all_goals rename_i hKind
    case h_1 =>
      obtain ⟨i, hp, rfl⟩ := (attachRequest_eq_iff h).1 hx
      exact ⟨BitVec.eq_of_toNat_eq hKind, hp, trivial⟩
    case h_2 =>
      rcases (detachRequest_eq_iff h).1 hx with ⟨hp, rfl⟩ | ⟨hp, rfl⟩
      · exact ⟨BitVec.eq_of_toNat_eq hKind, hp, trivial⟩
      · exact ⟨BitVec.eq_of_toNat_eq hKind, hp, trivial⟩
    case h_4 =>
      obtain ⟨k, note, hNote, hp, rfl⟩ := (openRequest_eq_iff h).1 hx
      exact ⟨BitVec.eq_of_toNat_eq hKind, hp, hNote⟩
    case h_5 | h_6 | h_8 =>
      obtain ⟨k, hp, rfl⟩ := (keyRequest_eq_iff h).1 hx
      exact ⟨BitVec.eq_of_toNat_eq hKind, hp, trivial⟩
    case h_11 =>
      obtain ⟨k, hp, rfl⟩ := (ackRequest_eq_iff h).1 hx
      exact ⟨BitVec.eq_of_toNat_eq hKind, hp, trivial⟩
    case h_3 | h_7 | h_9 | h_10 | h_12 =>
      obtain ⟨hp, rfl⟩ := (bareRequest_eq_iff h).1 hx
      exact ⟨BitVec.eq_of_toNat_eq hKind, hp, trivial⟩
  · rintro ⟨hCode, hWords, hShort⟩
    unfold Request.classify
    rw [hCode, hWords]
    cases x with
    | bad => exact absurd rfl h
    | attach i => exact (attachRequest_eq_iff h).2 ⟨i, rfl, rfl⟩
    | detachGraceful => exact (detachRequest_eq_iff h).2 (.inl ⟨rfl, rfl⟩)
    | detachAbrupt => exact (detachRequest_eq_iff h).2 (.inr ⟨rfl, rfl⟩)
    | openIntent k note => exact (openRequest_eq_iff h).2 ⟨k, note, hShort, rfl, rfl⟩
    | closeIntent k | query k | resolve k => exact (keyRequest_eq_iff h).2 ⟨k, rfl, rfl⟩
    | ackNotice k => exact (ackRequest_eq_iff h).2 ⟨k, rfl, rfl⟩
    | pulse | adopt | clearMark | fencePeer | status => exact (bareRequest_eq_iff h).2 ⟨rfl, rfl⟩

/-- The note of an OPEN that passes the length check has at most two words (R27). -/
theorem note_of_classify {r : Request} {k : RegionKey} {note : List Word} (h : r.classify = .openIntent k note) : note.length ≤ 2 :=
  ((classify_eq_iff (by nofun)).1 h).2.2

end Sys2Proof.Machine
end

section
/-! PROOFS. The requests of the controllers as one table: what each runs at its grant, and that a command out of turn does nothing. -/

-- The proofs are checked one after the other: run at once, their threads would exceed the memory bound of the check.
set_option Elab.async false

namespace Sys2Proof.Machine

/-- What a request's own rule does at its grant. -/
def PeerRequest.run (p : Port) (w : SlotWear) (ws : List SlotWear) : PeerRequest → State → Answer × State
  | .bad => fun s => ({ status := .badRequest }, s)
  | .attach i => State.runAttach p i
  | .detachGraceful => State.runDetachGraceful p
  | .detachAbrupt => State.runDetachAbrupt p
  | .pulse => State.runPulse p
  | .openIntent k note => State.runOpen p k note w
  | .closeIntent k => State.runClose p k w
  | .query k => State.runQuery k w
  | .adopt => State.runAdopt p ws
  | .resolve k => State.runResolve p k w
  | .clearMark => State.runClearMark p
  | .fencePeer => State.runFencePeer p
  | .ackNotice k => State.runAckNotice p k
  | .status => State.runStatus p

/-- The requests that the checks of R134 do not judge: a malformed one, and ATTACH, whose rule has its own. -/
def PeerRequest.unchecked : PeerRequest → Bool
  | .bad => true
  | .attach _ => true
  | .detachGraceful | .detachAbrupt | .pulse | .openIntent .. | .closeIntent _ | .query _ | .adopt | .resolve _ | .clearMark
  | .fencePeer | .ackNotice _ | .status => false

/-- A grant of port `p` that executes `r`, which spells `k`. -/
def State.serving (s : State) (p : Port) (r : Request) (w : SlotWear) (ws : List SlotWear) (k : PeerRequest) : State :=
  if k.unchecked then s.serve p r (k.run p w ws) else s.serveChecked p r (k.run p w ws)

/-- The command of a request executes it when the grant is due. -/
theorem exec_commandFor {s : State} {p : Port} {r : Request} {k : PeerRequest} (h : Granted s p r k) (w : SlotWear) (ws : List SlotWear) :
    exec (commandFor p w ws k) s = .next (s.serving p r w ws k) := by
  obtain ⟨hr, rfl⟩ := h
  cases hk : r.classify with
  | bad | attach | detachGraceful | detachAbrupt | pulse | openIntent | closeIntent | query | adopt | resolve | clearMark | fencePeer
  | ackNotice | status =>
    simp only [commandFor, exec, execBadRequest, execAttach, execDetachGraceful, execDetachAbrupt, execPulse, execOpen, execClose,
      execQuery, execAdopt, execResolve, execClearMark, execFencePeer, execAckNotice, execStatus, hr, hk]
    rfl

/-- A request that passes the checks of R134 runs, and is answered. -/
theorem exec_of_executes {s : State} {p : Port} {r : Request} {k : PeerRequest} (h : Executes s p r k) (hk : k.unchecked = false)
    (w : SlotWear) (ws : List SlotWear) : exec (commandFor p w ws k) s =
      .next ((k.run p w ws (s.grantStart p)).2.answered p r (k.run p w ws (s.grantStart p)).1) := by
  rw [exec_commandFor h.1, State.serving, hk, if_neg (by nofun), serveChecked_of_executes h]

/-- A peer-request command does nothing while no grant of its port is due. -/
theorem exec_request_of_none {p : Port} {c : Instr} {s : State} (hc : isRequestOf p c) (h : s.grantedRequest p = none) :
    exec c s = .next s := by
  cases c with
  | badRequest | attach | detachGraceful | detachAbrupt | pulse | openIntent | closeIntent | query | adopt | resolve | clearMark
  | fencePeer | ackNotice | status =>
    obtain rfl : _ = p := hc
    simp only [exec, execBadRequest, execAttach, execDetachGraceful, execDetachAbrupt, execPulse, execOpen, execClose,
      execQuery, execAdopt, execResolve, execClearMark, execFencePeer, execAckNotice, execStatus, h]
  | _ => exact absurd hc id

/-- A peer-request command does nothing when the head of its port's queue spells another. -/
theorem exec_request_of_other {p : Port} {c : Instr} {s : State} {r : Request} {k : PeerRequest} (hc : isRequestOf p c)
    (h : Granted s p r k) (hOther : ∀ w ws, c ≠ commandFor p w ws k) : exec c s = .next s := by
  obtain ⟨hr, rfl⟩ := h
  cases c with
  | badRequest | attach | detachGraceful | detachAbrupt | pulse | clearMark | fencePeer | ackNotice | status =>
    obtain rfl : _ = p := hc
    simp only [exec, execBadRequest, execAttach, execDetachGraceful, execDetachAbrupt, execPulse, execClearMark, execFencePeer,
      execAckNotice, execStatus, hr]
    refine congrArg Host.Outcome.next ?_
    split
    · next hk => exact absurd (by rw [hk]; rfl) (hOther {} [])
    · rfl
  | openIntent q w | closeIntent q w | query q w | resolve q w =>
    obtain rfl : _ = p := hc
    simp only [exec, execOpen, execClose, execQuery, execResolve, hr]
    refine congrArg Host.Outcome.next ?_
    split
    · next hk => exact absurd (by rw [hk]; rfl) (hOther w [])
    · rfl
  | adopt q ws =>
    obtain rfl : _ = p := hc
    simp only [exec, execAdopt, hr]
    refine congrArg Host.Outcome.next ?_
    split
    · next hk => exact absurd (by rw [hk]; rfl) (hOther {} ws)
    · rfl
  | _ => exact absurd hc id

/-- Settles O30, by whether a grant of the port is due. -/
theorem requestsOutOfTurnChangeNothing : Obligations.RequestsOutOfTurnChangeNothing := by
  unfold Obligations.RequestsOutOfTurnChangeNothing
  rintro p c s hc (h | ⟨r, k, h, hOther⟩)
  · exact exec_request_of_none hc h
  · exact exec_request_of_other hc h hOther

end Sys2Proof.Machine
end

section
/-! PROOFS. What the requests of the controllers keep, each at its grant (R107, R134, R135). -/

-- The proofs are checked one after the other: run at once, their threads would exceed the memory bound of the check.
set_option Elab.async false

namespace Sys2Proof.Machine

theorem sound_deliverReply (s : State) (p : Port) (r : Request) (a : Answer) : Sound s (s.deliverReply p r a) := by
  have hTaken : Kept s (s.setLink p { s.link p with
      cache := if a.status.cached then
        cachePush (s.link p).cache { kind := replyKind r.kind, seq := r.seq, status := a.status, payload := a.payload }
        else (s.link p).cache
      requests := (s.link p).requests.tail }) := .setLink fun h => h
  exact hTaken.sound.trans (kept_enqueue ..).sound

/-- A request runs, and its reply and its notices follow. -/
theorem eventOk_serve {s : State} {p : Port} (r : Request) {run : State → Answer × State}
    (h : Sound (s.grantStart p) (run (s.grantStart p)).2) : EventOk s (s.serve p r run) :=
  Sound.finished (((sound_grantStart s p).trans h).trans (sound_deliverReply _ p r _))

/-- Past the checks of R134 the session is open. -/
theorem isOpen_of_checked {s : State} {p : Port} {e : Epoch} (h : s.sessionCheck p e = none) : s.isOpen p = true := by
  unfold State.sessionCheck at h
  split at h
  · cases h
  · rw [State.isOpen]
    cases hs : (s.session p).state with
    | attached => rfl
    | draining => rfl
    | fenced | detached | lapsed => rw [hs] at h; cases h

theorem eventOk_serveChecked {s : State} {p : Port} (r : Request) {run : State → Answer × State}
    (h : ∀ u : State, u.isOpen p = true → Sound u (run u).2) : EventOk s (s.serveChecked p r run) := by
  refine eventOk_serve r ?_
  split
  · exact .refl _
  · next hCheck => exact h _ (isOpen_of_checked hCheck)

/-! ATTACH (R52) -/

theorem openSession_session (s : State) (p q : Port) : (s.openSession p).session q = if q = p
    then { s.session p with
      state := .attached, epoch := nextEpoch (s.session p).epoch, holdings := 0, adoptions := 0, drainTimer := none
      lapseTimer := some (s.settings.lapsePeriod p), clearedSince := false }
    else s.session q := by
  unfold State.openSession
  simp [PerPort.get_set]

/-- Under `EpochsFresh` no entry counts for a session with its port's next epoch. -/
theorem uncounted_of_fresh {s t : State} {p : Port} (h : EpochsFresh s) (hi : Inv s) (hEpoch : (t.session p).epoch = nextEpoch (s.session p).epoch)
    (hEntry : ∀ n, t.entryAt n = s.entryAt n) (n : Nat) : Uncounted t p n := by
  cases he : t.entryAt n with
  | none =>
    unfold Uncounted State.holdsLive State.adoptsLive
    rw [he]
    exact ⟨rfl, rfl⟩
  | some e =>
    obtain ⟨hNot, hBody⟩ := entryAt_eq_some_iff.1 ((hEntry n).symm.trans he)
    obtain ⟨a, ha⟩ := Option.ne_none_iff_exists'.1 hNot
    obtain ⟨hHolds, hAdopter⟩ := h (n, a) ((mem_index_iff hi.journal.indexWf).2 ha) e hBody p
    obtain ⟨hLive, hAdopts⟩ := holdsLive_of_entry (p := p) he
    rw [Uncounted, hLive, hAdopts, hEpoch, Bool.and_eq_false_iff, Bool.and_eq_false_iff, decide_eq_false_iff_not, decide_eq_false_iff_not]
    refine ⟨.inr fun hEq => ?_, .inr hAdopter⟩
    obtain ⟨x, hx, hxe⟩ := Option.map_eq_some_iff.1 hEq
    exact hHolds x hx hxe

theorem portCounted_of_uncounted {s : State} {p : Port} (h : ∀ n, Uncounted s p n) (h1 : (s.session p).holdings = 0)
    (h2 : (s.session p).adoptions = 0) : PortCounted s p := by
  refine ⟨h1.trans (Eq.symm (List.countP_eq_zero.2 fun n _ => ?_)), h2.trans (Eq.symm (List.countP_eq_zero.2 fun n _ => ?_))⟩
  · rw [(h n).1]
    nofun
  · rw [(h n).2]
    nofun

/-- What an ATTACH that is not refused leaves. -/
theorem runAttach_cases (p : Port) (i : Word) (s : State) :
    (State.runAttach p i s).2 = s ∨ ∃ u : State, (State.runAttach p i s).2 = u.openSession p ∧ Sound s u ∧
      (∀ q, q ≠ p → u.session q = s.session q) ∧ (u.session p).epoch = (s.session p).epoch ∧ u.journal = s.journal ∧
      u.freeCount = s.freeCount := by
  unfold State.runAttach
  split
  · exact .inl rfl
  · split
    · exact .inl rfl
    · refine .inr ⟨_, rfl, ?_⟩
      split
      · refine ⟨sound_endSession s p rfl, fun q hq => ?_, ?_, ?_, ?_⟩
        all_goals simp [State.endSession, State.markSweep, Session.closeTo, PerPort.get_set, *]
      · exact ⟨.refl s, fun _ _ => rfl, rfl, rfl, rfl⟩

/-- A new session has no live hold and no live adoption, the other session what it had (R49, R52). -/
theorem counted_openSession {s u : State} {p : Port} (hi : Inv s) (hFresh : EpochsFresh s) (h : ∀ q, PortCounted s q)
    (hOther : ∀ q, q ≠ p → u.session q = s.session q) (hEpoch : (u.session p).epoch = (s.session p).epoch)
    (hEntry : ∀ n, u.entryAt n = s.entryAt n) (q : Port) : PortCounted (u.openSession p) q := by
  have hSession := openSession_session u p q
  have hEntry' : ∀ n, (u.openSession p).entryAt n = s.entryAt n := fun n =>
    (entryAt_of_store (by simp [State.openSession]) (by simp [State.openSession]) (by simp [State.openSession]) n).trans (hEntry n)
  by_cases hq : q = p
  · subst hq
    rw [if_pos rfl] at hSession
    exact portCounted_of_uncounted (uncounted_of_fresh hFresh hi (by rw [hSession, hEpoch]) hEntry') (by rw [hSession]) (by rw [hSession])
  · rw [if_neg hq] at hSession
    exact (h q).of_eq (hSession.trans (hOther q hq)) hEntry'

theorem settled_openSession {s : State} (p : Port) (h : Settled s) : Settled (s.openSession p) :=
  h.of_eq (by simp [State.openSession]) (by simp [State.openSession]) (by simp [State.openSession]) (by simp [State.openSession])

theorem eventOk_attach (s : State) (p : Port) (r : Request) (i : Word) : EventOk s (s.serve p r (State.runAttach p i)) := by
  have hDone := (sound_deliverReply (State.runAttach p i (s.grantStart p)).2 p r (State.runAttach p i (s.grantStart p)).1).trans (sound_finish _)
  have hStart := sound_grantStart s p
  rcases runAttach_cases p i (s.grantStart p) with hSame | ⟨u, hOpened, hEnded, hOther, hEpoch, hJournal, hFree⟩
  · refine eventOk_serve r ?_
    rw [hSame]
    exact .refl _
  · have hRun := kept_runAttach p i (s.grantStart p)
    have hAll := (hStart.toKept.trans hRun).trans hDone.toKept
    refine ⟨hAll.outbound, hAll.inv, fun hi hs => ?_, fun hi hFresh hc => ?_, fun hb => ?_, fun _ => noticeLaw_finish _⟩
    · refine hDone.settled (hRun.inv (hStart.inv hi)) ?_
      rw [hOpened]
      exact settled_openSession p (hEnded.settled (hStart.inv hi) (hStart.settled hi hs))
    · refine hDone.counted (hRun.inv (hStart.inv hi)) ?_
      rw [hOpened]
      refine counted_openSession hi hFresh hc (fun q hq => (hOther q hq).trans (by simp)) (hEpoch.trans (by simp)) fun n => ?_
      exact entryAt_of_store (by rw [hJournal]; simp) (by rw [hJournal]; simp) (by rw [hFree]; simp) n
    · exact (iff_of_eq (congrArg (· = TargetState.busy) hAll.target)).trans
        (hb.trans (iff_of_eq (congrArg (fun x : Option GrantRequest => x.isSome = true) hAll.waiting.symm)))

/-! The requests of the table -/

theorem sound_runClearMark (p : Port) (s : State) : Sound s (State.runClearMark p s).2 := sound_setMark s p false

/-- What every request but ATTACH keeps, past its checks. -/
theorem sound_run {p : Port} {k : PeerRequest} (hk : ∀ i, k ≠ .attach i) (hShort : k.short) (w : SlotWear) (ws : List SlotWear) {s : State}
    (hOpen : s.isOpen p = true) : Sound s (k.run p w ws s).2 := by
  cases k with
  | attach i => exact absurd rfl (hk i)
  | bad | pulse | status => exact .refl s
  | detachGraceful => exact sound_runDetachGraceful p s
  | detachAbrupt => exact sound_runDetachAbrupt p s
  | openIntent k note => exact sound_runOpen hShort w hOpen
  | closeIntent k => exact sound_runClose p k w s
  | query k => exact sound_runQuery k w s
  | adopt => exact sound_runAdopt ws hOpen
  | resolve k => exact sound_runResolve p k w s
  | clearMark => exact sound_runClearMark p s
  | fencePeer => exact sound_runFencePeer p s
  | ackNotice k => exact sound_runAckNotice p k s

theorem eventOk_serving (s : State) (p : Port) (r : Request) (w : SlotWear) (ws : List SlotWear) {k : PeerRequest} (hShort : k.short) :
    EventOk s (s.serving p r w ws k) := by
  unfold State.serving
  split
  · next hk =>
    cases k with
    | bad => exact eventOk_serve r (.refl _)
    | attach i => exact eventOk_attach s p r i
    | _ => cases hk
  · next hk =>
    refine eventOk_serveChecked r fun u hOpen => sound_run (fun i hi => ?_) hShort w ws hOpen
    rw [hi] at hk
    exact hk rfl

theorem short_classify (r : Request) : r.classify.short := by
  by_cases h : r.classify = .bad
  · rw [h]
    trivial
  · exact ((classify_eq_iff h).1 rfl).2.2

/-- A peer-request command serves the head of its port's queue, or does nothing. -/
theorem eventOk_request {p : Port} {c : Instr} {s t : State} (h : exec c s = .next t) (hc : isRequestOf p c) : EventOk s t := by
  have hSame : exec c s = .next s → EventOk s t := fun hs => by
    obtain rfl := Host.Outcome.next.inj (hs.symm.trans h)
    exact .refl s
  cases hr : s.grantedRequest p with
  | none => exact hSame (exec_request_of_none hc hr)
  | some r =>
    by_cases hOther : ∀ w ws, c ≠ commandFor p w ws r.classify
    · exact hSame (exec_request_of_other hc ⟨hr, rfl⟩ hOther)
    · obtain ⟨w, ws, rfl⟩ : ∃ w ws, c = commandFor p w ws r.classify := by simpa using hOther
      rw [exec_commandFor ⟨hr, rfl⟩] at h
      obtain rfl := Host.Outcome.next.inj h
      exact eventOk_serving s p r w ws (short_classify r)

end Sys2Proof.Machine
end

section
/-! PROOFS. What the service requests keep, taken at once or at their grant (R176, R178). -/

-- The proofs are checked one after the other: run at once, their threads would exceed the memory bound of the check.
set_option Elab.async false

namespace Sys2Proof.Machine

/-! The service port's own part -/

theorem Inv.setService {s : State} {x : ServicePort} (h : Inv s) (hx : x.settings = s.service.settings) : Inv (s.setService x) := by
  obtain ⟨h1, h2, h3, h4, h5, h6, h7⟩ := h
  refine ⟨h1, ?_, fun n => ?_, h4.of_eq (h8 := hx), h5, h6.of_eq, h7.of_eq⟩
  · show s.faults.Ok x.settings.alertEnable
    rw [hx]
    exact h2
  · show n.bounds.1 ≤ x.settings.get n ∧ x.settings.get n ≤ n.bounds.2
    rw [hx]
    exact h3 n

/-- What a part of an event keeps, the service port's own part put aside. -/
structure Steady (s t : State) : Prop where
  outbound : OutboundLaw s → OutboundLaw t
  inv : Inv s → Inv t
  settled : Inv s → Settled s → Settled t
  counted : Inv s → (∀ p, PortCounted s p) → ∀ p, PortCounted t p

theorem Sound.steady {s t : State} (h : Sound s t) : Steady s t := ⟨h.outbound, h.inv, h.settled, h.counted⟩

theorem Steady.trans {s t u : State} (h : Steady s t) (h' : Steady t u) : Steady s u :=
  ⟨fun ho => h'.outbound (h.outbound ho), fun hi => h'.inv (h.inv hi), fun hi hs => h'.settled (h.inv hi) (h.settled hi hs),
    fun hi hc => h'.counted (h.inv hi) (h.counted hi hc)⟩

theorem steady_setService {s : State} {x : ServicePort} (hx : x.settings = s.service.settings) : Steady s (s.setService x) :=
  ⟨.of_links rfl, fun h => h.setService hx, fun _ h => h.of_eq, fun _ h p => (h p).of_parts⟩

theorem steady_complete (s : State) (r : ServiceResult) : Steady s (s.complete r) := steady_setService rfl

theorem Steady.eventOk {s t : State} (h : Steady s t) (hBusy : BusyLaw s → BusyLaw t) (hNotice : NoticeLaw s → NoticeLaw t) : EventOk s t :=
  ⟨h.outbound, h.inv, h.settled, fun hi _ => h.counted hi, hBusy, hNotice⟩

theorem busyLaw_complete (s : State) (r : ServiceResult) : BusyLaw (s.complete r) := iff_of_false nofun nofun

theorem noticeLaw_setService {s : State} (x : ServicePort) (h : NoticeLaw s) : NoticeLaw (s.setService x) := h

/-- A service request taken at once. -/
theorem eventOk_serviceEvent {code : Byte} {params : List Byte} {run : State → ServiceResult × State} (hl : params.length ≤ 14)
    (hc : paramLength code = some params.length) (hRun : ∀ u, Sound u (run u).2) (hNotice : ∀ u, NoticeLaw u → NoticeLaw (run u).2)
    (s : State) : EventOk s (s.serviceEvent code params run) := by
  by_cases h : s.service.target = .busy
  · rw [serviceEvent_of_busy code params h]
    exact .refl s
  · rw [serviceEvent_of_accepted h hl hc]
    have hAccepted : Steady s (s.setService { s.service with
      target := .busy, collection := [], overlong := false, sent := 0, result := none }) := steady_setService rfl
    exact ((hAccepted.trans (hRun _).steady).trans (steady_complete ..)).eventOk (fun _ => busyLaw_complete ..) fun hn => hNotice _ hn

/-- A service request at its grant. -/
theorem eventOk_serviceGrant {run : State → ServiceResult × State} (hRun : ∀ u, Sound u (run u).2) (s : State) :
    EventOk s (s.serviceGrant run) := by
  have hAll := (((sound_beginGrant s .service).trans (hRun _)).steady.trans (steady_complete _ (run (s.beginGrant .service)).1)).trans
    (sound_finish _).steady
  exact hAll.eventOk (fun _ => (sound_finish _).busy (busyLaw_complete ..)) fun _ => noticeLaw_finish _

/-! Reads of settings, views and identity -/

theorem runGetSetting_state (n : Byte) (s : State) : (State.runGetSetting n s).2 = s := by
  unfold State.runGetSetting
  split <;> rfl

/-! FENCE, UNFENCE, CLEAR_MARK (R70, R71) -/

theorem raise_held_none {s : State} (h : s.notices.held = none) (p : Port) (k : NoticeKind) (w : Option Word) :
    (s.raise p k w).notices.held = none := by
  unfold State.raise
  rw [h]
  simpa using h

theorem sound_runFence (b : Byte) (s : State) : Sound s (State.runFence b s).2 := by
  unfold State.runFence
  split
  · exact .refl s
  · split
    · exact .refl s
    · exact (sound_fencePort ..).trans (kept_judgeRepeat _).sound

theorem noticeLaw_runFence (b : Byte) (s : State) (h : NoticeLaw s) : NoticeLaw (State.runFence b s).2 := by
  unfold State.runFence
  split
  · exact h
  · split
    · exact h
    · refine noticeLaw_judgeRepeat ?_
      unfold State.fencePort
      simp [raise_held_none, h.2]

theorem sound_unfence {s : State} {p : Port} (h : (s.session p).state = .fenced) :
    Sound s (s.setSession p { s.session p with state := .detached, fenceLine := false }) := by
  have hKept : Kept s (s.setSession p { s.session p with state := .detached, fenceLine := false }) := by
    refine .setSession fun _ hp => ?_
    have hClosed : (s.sessions.get p).state.isOpen = false := by
      rw [show (s.sessions.get p).state = .fenced from h]
      rfl
    refine ⟨fun _ => hp.closed hClosed, hp.lapse.trans hClosed, ⟨fun hd => ?_, nofun⟩, nofun, hp.holdings, fun _ => rfl, nofun, nofun⟩
    have := hp.drain.1 hd
    rw [show (s.sessions.get p).state = .fenced from h] at this
    cases this
  exact hKept.sound_of_closed (closed_setSession s p rfl) fun q hq => by simp [PerPort.get_set, hq]

theorem isOpen_setSession {s : State} {p : Port} {x : Session} (h : x.state.isOpen = s.isOpen p) (q : Port) :
    (s.setSession p x).isOpen q = s.isOpen q := by
  by_cases hq : q = p
  · subst hq
    simpa using h
  · simp [PerPort.get_set, hq]

theorem NoticeLaw.setSession {s : State} {p : Port} {x : Session} (h : NoticeLaw s) (hx : x.state.isOpen = s.isOpen p) :
    NoticeLaw (s.setSession p x) := h.of_quiet (isOpen_setSession hx) rfl rfl rfl

theorem runUnfence_law (b : Byte) (s : State) : Sound s (State.runUnfence b s).2 ∧ (NoticeLaw s → NoticeLaw (State.runUnfence b s).2) := by
  unfold State.runUnfence
  split
  · exact ⟨.refl s, id⟩
  · next p _ =>
    split
    · next h => exact ⟨sound_unfence h, fun hn => hn.setSession (by rw [State.isOpen, h]; rfl)⟩
    · exact ⟨.refl s, id⟩

theorem runServiceClearMark_law (b : Byte) (s : State) :
    Sound s (State.runServiceClearMark b s).2 ∧ (NoticeLaw s → NoticeLaw (State.runServiceClearMark b s).2) := by
  unfold State.runServiceClearMark
  split
  · exact ⟨.refl s, id⟩
  · exact ⟨sound_setMark .., fun hn => hn.setSession rfl⟩

/-! CLEAR_FAULTS (R192) -/

theorem runClearFaults_law (c : Byte) (s : State) :
    Sound s (State.runClearFaults c s).2 ∧ (NoticeLaw s → NoticeLaw (State.runClearFaults c s).2) := by
  rcases Nat.lt_or_ge c.toNat 32 with h | h
  · rw [runClearFaults_of_lt h]
    have hKept : Kept s (s.setFaults (s.faults.cleared c)).judgeAlert := .setFaults fun hl d => by
      rw [Faults.cleared_get]
      unfold clearedIf
      split
      · exact fun _ => rfl
      · exact hl d
    exact ⟨hKept.sound, id⟩
  · rw [runClearFaults_of_le h]
    exact ⟨.refl s, id⟩

/-! SET_SETTING (R180, R181) -/

theorem Settings.get_put_same (x : Settings) (n : SettingName) {v : Nat} (h : n.bounds.1 ≤ v ∧ v ≤ n.bounds.2) :
    (x.put n v).get n = v := by
  cases n with
  | alertEnable =>
    have : v ≤ 31 := h.2
    exact Nat.mod_eq_of_lt (Nat.lt_succ_of_le this)
  | _ => rfl

theorem Settings.get_put_other (x : Settings) {n m : SettingName} (h : m ≠ n) (v : Nat) : (x.put n v).get m = x.get m := by
  revert h
  cases n <;> cases m <;> simp [Settings.get, Settings.put]

theorem SettingsLaw.put {s : State} (h : SettingsLaw s) {n : SettingName} {v : Nat} (hv : n.bounds.1 ≤ v ∧ v ≤ n.bounds.2)
    (m : SettingName) : m.bounds.1 ≤ (s.settings.put n v).get m ∧ (s.settings.put n v).get m ≤ m.bounds.2 := by
  by_cases hm : m = n
  · subst hm
    rw [Settings.get_put_same _ _ hv]
    exact hv
  · rw [Settings.get_put_other _ hm]
    exact h m

/-- A setting takes a value in its range (R180). -/
def State.putSetting (s : State) (n : SettingName) (v : Nat) : State :=
  s.setService { s.service with settings := s.settings.put n v }

theorem Settings.put_alertEnable (x : Settings) {n : SettingName} (h : n ≠ .alertEnable) (v : Nat) :
    (x.put n v).alertEnable = x.alertEnable := by
  cases n with
  | alertEnable => exact absurd rfl h
  | _ => rfl

theorem Settings.put_scrubPace (x : Settings) {n : SettingName} (h : n ≠ .scrubPace) (v : Nat) :
    (x.put n v).scrubPace = x.scrubPace := Settings.get_put_other x (m := .scrubPace) h.symm v

/-- Of the laws, those of the settings, of ALERT_N and of the scrub pace timer read the settings. -/
theorem kept_putSetting {s t : State} {n : SettingName} {v : Nat} (hv : n.bounds.1 ≤ v ∧ v ≤ n.bounds.2)
    (hFaults : Inv s → t.faults.Ok (s.settings.put n v).alertEnable) (hEngine : Inv s → EngineLaw t)
    (h1 : t = { s.putSetting n v with arbiter := t.arbiter, faults := t.faults }) : Kept s t := by
  obtain ⟨a, f, rfl⟩ : ∃ a f, t = { s.putSetting n v with arbiter := a, faults := f } := ⟨_, _, h1⟩
  exact ⟨.of_links rfl, fun hi => ⟨hi.ports, hFaults hi, hi.settings.put hv, hEngine hi, hi.positions,
    hi.journal.of_eq rfl rfl rfl rfl rfl rfl rfl rfl, hi.blocks.of_eq rfl rfl rfl rfl rfl (fun _ => Iff.rfl) rfl⟩, rfl, rfl, fun _ hb => hb⟩

theorem EngineLaw.putSetting {s : State} (h : EngineLaw s) {n : SettingName} (hn : n ≠ .scrubPace) (v : Nat) :
    EngineLaw (s.putSetting n v) := by
  obtain ⟨a1, a2, a3, a4, a5, a6, a7, a8⟩ := h
  refine ⟨a1, a2, a3, ?_, a5, a6, a7, a8⟩
  show _ ↔ s.engine.state ≠ .initializing ∧ (s.settings.put n v).scrubPace ≠ 0
  rw [Settings.put_scrubPace _ hn]
  exact a4

theorem kept_plainSetting {s : State} {n : SettingName} {v : Nat} (hv : n.bounds.1 ≤ v ∧ v ≤ n.bounds.2) (h1 : n ≠ .alertEnable)
    (h2 : n ≠ .scrubPace) : Kept s (s.putSetting n v) := by
  refine kept_putSetting hv (fun hi => ?_) (fun hi => hi.engine.putSetting h2 v) rfl
  rw [Settings.put_alertEnable _ h1]
  exact hi.faults

/-- R193: the line is judged anew under the new enable set. -/
theorem kept_alertEnable {s : State} {v : Nat} (hv : SettingName.alertEnable.bounds.1 ≤ v ∧ v ≤ SettingName.alertEnable.bounds.2) :
    Kept s (s.putSetting .alertEnable v).judgeAlert := by
  refine kept_putSetting hv (fun hi => ⟨rfl, fun c => ?_⟩) (fun hi => ?_) rfl
  · rw [judgeAlert_get]
    exact hi.faults.later c
  · exact (hi.engine.putSetting (n := .alertEnable) nofun v).of_eq rfl rfl rfl rfl rfl rfl rfl rfl rfl rfl rfl

/-- R131: with a pace of 0 the timer stops and no scrub is due; from 0, outside INITIALIZING, it starts. -/
theorem EngineLaw.changeScrubPace {s : State} (h : EngineLaw s) {v : Nat} :
    EngineLaw ((s.putSetting .scrubPace v).changeScrubPace s.settings.scrubPace v) := by
  obtain ⟨a1, a2, a3, a4, a5, a6, a7, a8⟩ := h
  unfold State.changeScrubPace
  split
  · next h0 =>
    refine ⟨a1, a2, a3, iff_of_false nofun fun h => h.2 h0, nofun, a6, a7, a8⟩
  · next h0 =>
    split
    · next hOld =>
      have hRunning : s.engine.state ≠ .initializing := of_decide_eq_true hOld.2
      have hDue : ¬(s.arbiter.scrubTimer.isSome = true ∨ s.arbiter.scrubDue = true) := fun hd => (a4.1 hd).2 hOld.1
      exact ⟨a1, a2, a3, iff_of_true (.inl rfl) ⟨hRunning, h0⟩, fun hd => hDue (.inr hd.2), a6, a7, a8⟩
    · next hOld =>
      refine ⟨a1, a2, a3, a4.trans (and_congr_right fun hRunning => iff_of_true (fun hz => hOld ⟨hz, ?_⟩) h0), a5, a6, a7, a8⟩
      exact decide_eq_true hRunning

theorem changeScrubPace_eq (s : State) (old new : Nat) :
    s.changeScrubPace old new = { s with arbiter := (s.changeScrubPace old new).arbiter } := by
  unfold State.changeScrubPace
  split
  · rfl
  · split <;> rfl

theorem kept_scrubPace {s : State} {v : Nat} (hv : SettingName.scrubPace.bounds.1 ≤ v ∧ v ≤ SettingName.scrubPace.bounds.2) :
    Kept s ((s.putSetting .scrubPace v).changeScrubPace s.settings.scrubPace v) := by
  have hEq := changeScrubPace_eq (s.putSetting .scrubPace v) s.settings.scrubPace v
  refine kept_putSetting hv (fun hi => ?_) (fun hi => hi.engine.changeScrubPace) ?_
  · rw [hEq]
    exact hi.faults
  · rw [hEq]

/-- Leaves the sessions and the notice unit. -/
def SilentSound (s t : State) : Prop := Sound s t ∧ t.sessions = s.sessions ∧ t.notices = s.notices

theorem silent_retestBuckets (s : State) : SilentSound s s.retestBuckets := by
  unfold State.retestBuckets
  have hAll : ∀ b ∈ List.range 16, b < 16 := fun b hb => List.mem_range.1 hb
  generalize List.range 16 = l at hAll ⊢
  induction l generalizing s with
  | nil => exact ⟨.refl s, rfl, rfl⟩
  | cons b rest ih =>
    rw [List.foldl_cons]
    obtain ⟨hRest, hSessions, hNotices⟩ := ih (if (s.block b).state = .inService ∧ b ∉ s.integrity.retireQueue ∧
      s.settings.bucketThreshold ≤ (s.block b).bucket then s.queueBlock b else s) fun c hc => hAll c (List.mem_cons_of_mem _ hc)
    have hHere : SilentSound s (if (s.block b).state = .inService ∧ b ∉ s.integrity.retireQueue ∧
        s.settings.bucketThreshold ≤ (s.block b).bucket then s.queueBlock b else s) := by
      split
      · exact ⟨SoundIf.sound (soundIf_queueBlock fun _ _ => hAll b List.mem_cons_self), by simp, by simp⟩
      · exact ⟨.refl s, rfl, rfl⟩
    exact ⟨hHere.1.trans hRest, hSessions.trans hHere.2.1, hNotices.trans hHere.2.2⟩

theorem silent_applySetting {s : State} {n : SettingName} {v : Nat} (hv : n.bounds.1 ≤ v ∧ v ≤ n.bounds.2) :
    SilentSound s ((s.putSetting n v).applySetting n (s.settings.get n) v) := by
  cases n with
  | bucketThreshold =>
    have hPut : SilentSound s (s.putSetting .bucketThreshold v) := ⟨(kept_plainSetting hv nofun nofun).sound rfl rfl rfl rfl rfl rfl rfl rfl, rfl, rfl⟩
    unfold State.applySetting
    dsimp only
    split
    · obtain ⟨h1, h2, h3⟩ := silent_retestBuckets (s.putSetting .bucketThreshold v)
      exact ⟨hPut.1.trans h1, h2, h3⟩
    · exact hPut
  | scrubPace =>
    have hEq := changeScrubPace_eq (s.putSetting .scrubPace v) s.settings.scrubPace v
    have hKept := kept_scrubPace (s := s) hv
    show SilentSound s ((s.putSetting .scrubPace v).changeScrubPace s.settings.scrubPace v)
    rw [hEq] at hKept ⊢
    exact ⟨hKept.sound rfl rfl rfl rfl rfl rfl rfl rfl, rfl, rfl⟩
  | alertEnable => exact ⟨(kept_alertEnable hv).sound rfl rfl rfl rfl rfl rfl rfl rfl, rfl, rfl⟩
  | lapsePeriodA | lapsePeriodB | drainLimit | noticeRepeat | quotaA | quotaB | lowWater | leakPeriod | fencePeerEnable =>
    exact ⟨(kept_plainSetting hv nofun nofun).sound rfl rfl rfl rfl rfl rfl rfl rfl, rfl, rfl⟩

theorem silent_runSetSetting (n : Byte) (v : Half) (s : State) : SilentSound s (State.runSetSetting n v s).2 := by
  unfold State.runSetSetting
  split
  · exact ⟨.refl s, rfl, rfl⟩
  · dsimp only
    split
    · next hv =>
      split
      · exact ⟨.refl s, rfl, rfl⟩
      · exact silent_applySetting hv
    · exact ⟨.refl s, rfl, rfl⟩

theorem NoticeLaw.of_silent {s t : State} (h : NoticeLaw s) (h1 : t.sessions = s.sessions) (h2 : t.notices = s.notices) : NoticeLaw t :=
  h.of_quiet (isOpen_of_sessions h1) (by rw [h2]) (by rw [h2]) (by rw [h2])

end Sys2Proof.Machine
end

section
/-! PROOFS. What the link events and the timers keep. -/

-- The proofs are checked one after the other: run at once, their threads would exceed the memory bound of the check.
set_option Elab.async false

namespace Sys2Proof.Machine

/-! Links (R99 to R104, R117 to R120) -/

theorem sound_setLink {s : State} {p : Port} {l : Link} (h : (s.link p).OutOk → l.OutOk) : Sound s (s.setLink p l) :=
  (Kept.setLink h).sound

theorem eventOk_setLink {s : State} {p : Port} {l : Link} (h : (s.link p).OutOk → l.OutOk) : EventOk s (s.setLink p l) :=
  (sound_setLink h).silent

/-- A link that carries nothing (R117, R120). -/
theorem Link.outOk_of_empty {l : Link} (h1 : l.outbound = []) (h2 : l.sending = none)
    (h3 : l.trainingLimit.isSome = true ↔ l.state = .training) : l.OutOk :=
  ⟨by rw [h1]; exact Nat.zero_le _, fun _ => ⟨h1, h2⟩, h3⟩

theorem eventOk_enterDown (s : State) (p : Port) : EventOk s (s.enterDown p) := by
  have hDown : Kept s (s.setLink p { s.link p with state := .down, trainingLimit := none, outbound := [], sending := none }) :=
    .setLink fun _ => Link.outOk_of_empty rfl rfl (iff_of_false nofun nofun)
  exact (hDown.sound.trans (sound_capture ..)).silent (by simp) (by simp)

theorem eventOk_signalDetect {p : Port} {s t : State} (h : execSignalDetect p s = .next t) : EventOk s t := by
  obtain rfl := Host.Outcome.next.inj h
  split
  · next hs =>
    refine eventOk_setLink fun hl => ?_
    obtain ⟨h1, h2⟩ := hl.2.1 (by rw [hs]; nofun)
    exact Link.outOk_of_empty h1 h2 (iff_of_true rfl rfl)
  · exact .refl s
  · exact .refl s

theorem eventOk_trainingCompletes {p : Port} {s t : State} (h : execTrainingCompletes p s = .next t) : EventOk s t := by
  obtain rfl := Host.Outcome.next.inj h
  split
  · exact eventOk_setLink fun hl => ⟨hl.1, fun hn => absurd rfl hn, iff_of_false nofun nofun⟩
  · exact .refl s
  · exact .refl s

theorem eventOk_trainingLimitExpiry {p : Port} {s t : State} (h : execTrainingLimitExpiry p s = .next t) : EventOk s t := by
  obtain rfl := Host.Outcome.next.inj h
  split
  · exact eventOk_enterDown s p
  · exact .refl s
  · exact .refl s

theorem eventOk_lossOfLock {p : Port} {s t : State} (h : execLossOfLock p s = .next t) : EventOk s t := by
  obtain rfl := Host.Outcome.next.inj h
  split
  · exact eventOk_enterDown s p
  · exact eventOk_enterDown s p
  · exact .refl s

theorem eventOk_frameTransmit {p : Port} {s t : State} (h : execFrameTransmit p s = .next t) : EventOk s t := by
  obtain rfl := Host.Outcome.next.inj h
  split
  · next hs ho =>
    refine eventOk_setLink fun ⟨h1, h2, h3⟩ => ⟨?_, fun hn => absurd hs hn, h3⟩
    rw [ho] at h1
    exact Nat.le_of_succ_le h1
  · exact .refl s

/-- R56: the lapse timer of an open session restarts. -/
theorem restartLapse_law (s : State) (p : Port) (r : Request) :
    Sound s (s.restartLapse p r) ∧ (s.restartLapse p r).notices = s.notices ∧ ∀ q, (s.restartLapse p r).isOpen q = s.isOpen q := by
  unfold State.restartLapse
  split
  · next h =>
    have hOpen : s.isOpen p = true := (epochLive_iff.1 (Bool.and_eq_true_iff.1 h).1).1
    have hKept : Kept s (s.setSession p { s.session p with lapseTimer := some (s.settings.lapsePeriod p) }) :=
      .setSession fun _ hp => ⟨hp.closed, hOpen.symm, hp.drain, hp.epoch, hp.holdings, hp.starting, hp.fence⟩
    have hSame := isOpen_setSession (s := s) (p := p) (x := { s.session p with lapseTimer := some (s.settings.lapsePeriod p) }) rfl
    refine ⟨hKept.sound_of_session fun q => ⟨hSame q, ?_⟩, rfl, hSame⟩
    by_cases hq : q = p
    · subst hq
      simp
    · simp [PerPort.get_set, hq]
  · exact ⟨.refl s, rfl, fun _ => rfl⟩

theorem eventOk_admitFrame (s : State) (p : Port) (r : Request) : EventOk s (s.admitFrame p r) := by
  obtain ⟨hRestart, hNotices, hOpen⟩ := restartLapse_law s p r
  unfold State.admitFrame
  generalize s.restartLapse p r = t at hRestart hNotices hOpen
  have hThen : ∀ u : State, Sound t u → u.sessions = t.sessions → u.notices = t.notices → EventOk s u := fun u hu h1 h2 =>
    (hRestart.trans hu).quiet (fun q => (isOpen_of_sessions h1 q).trans (hOpen q)) (by rw [h2, hNotices]) (by rw [h2, hNotices])
      (by rw [h2, hNotices])
  dsimp only
  split
  · exact hThen _ (kept_enqueue ..).sound (by simp) (by simp)
  · split
    · exact hThen _ (.refl t) rfl rfl
    · split
      · exact hThen _ (sound_capture ..) (by simp) (by simp)
      · exact hThen _ (sound_setLink fun h => h) (by simp) (by simp)

theorem eventOk_requestFrame {p : Port} {ws : List Word} {s t : State} (h : execRequestFrame p ws s = .next t) : EventOk s t := by
  obtain rfl := Host.Outcome.next.inj h
  split
  · split
    · exact (sound_capture ..).silent (by simp) (by simp)
    · exact (sound_capture ..).silent (by simp) (by simp)
    · exact eventOk_admitFrame s p _
  · exact .refl s
  · exact .refl s

/-! Timers (R57, R58, R64, R131, R144, R154) -/

theorem sound_lapse (s : State) (p : Port) : Sound s (s.lapse p) := by
  unfold State.lapse
  split
  · exact sound_fencePort ..
  · exact (((sound_leaveTo s p rfl).trans (sound_setMark ..)).trans (sound_raise ..)).trans (sound_capture ..)

theorem eventOk_lapseTimerExpiry {p : Port} {s t : State} (h : execLapseTimerExpiry p s = .next t) : EventOk s t := by
  obtain rfl := Host.Outcome.next.inj h
  split
  · exact (sound_lapse s p).finished
  · exact .refl s

theorem eventOk_drainTimerExpiry {p : Port} {s t : State} (h : execDrainTimerExpiry p s = .next t) : EventOk s t := by
  obtain rfl := Host.Outcome.next.inj h
  split
  · exact (((sound_leaveTo s p rfl).trans (sound_raise ..)).trans (sound_capture ..)).finished
  · exact .refl s

theorem kept_resend (s : State) (p : Port) (k : NoticeKind) : Kept s (s.resend p k) := by
  unfold State.resend
  split
  · exact kept_sendNotice ..
  · exact .refl s

theorem sound_resend (s : State) (p : Port) (k : NoticeKind) : Sound s (s.resend p k) := by
  have h := kept_resend s p k
  unfold State.resend at h ⊢
  split
  · next w hw =>
    rw [hw] at h
    exact h.sound
  · exact .refl s

theorem sound_resendAll (l : List NoticeKind) (p : Port) (s : State) : Sound s (l.foldl (fun t k => t.resend p k) s) := by
  induction l generalizing s with
  | nil => exact .refl s
  | cons k rest ih => exact (sound_resend s p k).trans (ih _)

theorem eventOk_repeatTimerExpiry {s t : State} (h : execRepeatTimerExpiry s = .next t) : EventOk s t := by
  obtain rfl := Host.Outcome.next.inj h
  split
  · have hRestart : Sound s (s.setNotices { s.notices with repeatTimer := some (s.settings.noticeRepeat * 10) }) :=
      (Kept.setNotices s _).sound
    exact ((hRestart.trans (sound_resendAll _ .a _)).trans (sound_resendAll _ .b _)).finished
  · exact .refl s

theorem leak_block (s : State) (b : Nat) :
    (s.setIntegrity { s.integrity with blocks := s.integrity.blocks.map Block.leak, leakTimer := some (s.settings.leakPeriod * 1000) }).block b =
      (s.block b).leak := by
  rw [block_eq, block_eq]
  unfold Integrity.block
  by_cases h : b < 16
  · simp [h]
  · simp [h, Block.leak]

theorem leak_fields (x : Block) : x.leak.state = x.state ∧ x.leak.bucket ≤ x.bucket := by
  unfold Block.leak
  split
  · exact ⟨rfl, Nat.le_refl _⟩
  · exact ⟨rfl, Nat.sub_le ..⟩

theorem eventOk_leakTimerExpiry {s t : State} (h : execLeakTimerExpiry s = .next t) : EventOk s t := by
  obtain rfl := Host.Outcome.next.inj h
  split
  · split
    · have hState : ∀ b, ((s.setIntegrity { s.integrity with
          blocks := s.integrity.blocks.map Block.leak, leakTimer := some (s.settings.leakPeriod * 1000) }).block b).state =
          (s.block b).state := fun b => by rw [leak_block, (leak_fields _).1]
      have hKept : Kept s (s.setIntegrity { s.integrity with
          blocks := s.integrity.blocks.map Block.leak, leakTimer := some (s.settings.leakPeriod * 1000) }) := by
        refine ⟨.of_links rfl, fun hi => ⟨hi.ports, hi.faults, hi.settings, ?_, hi.positions, hi.journal.of_eq, ?_⟩, rfl, rfl, fun b hb => ?_⟩
        · obtain ⟨a1, a2, -, a4, a5, a6, a7, a8⟩ := hi.engine
          exact ⟨a1, a2, fun _ => rfl, a4, a5, a6, a7, a8⟩
        · refine hi.blocks.of_states (fun b => ?_) fun b => .inl (hState b)
          rw [leak_block]
          exact Nat.le_trans (leak_fields _).2 (hi.blocks.retirement.1 b)
        · rw [hState]
          exact hb
      have hSound : Sound s _ := ⟨hKept, fun _ hs => hs.of_states hState, fun _ hc p => (hc p).of_parts⟩
      exact hSound.silent
    · exact .refl s
  · exact .refl s

theorem eventOk_scrubPaceExpiry {s t : State} (h : execScrubPaceExpiry s = .next t) : EventOk s t := by
  obtain rfl := Host.Outcome.next.inj h
  split
  · next n hn =>
    have hKept : Kept s (s.setArbiter { s.arbiter with scrubTimer := none, scrubDue := true }) := by
      refine ⟨.of_links rfl, fun hi => ⟨hi.ports, hi.faults, hi.settings, ?_, hi.positions, hi.journal.of_eq, hi.blocks.of_eq⟩, rfl, rfl,
        fun _ hb => hb⟩
      obtain ⟨a1, a2, a3, a4, -, a6, a7, a8⟩ := hi.engine
      exact ⟨a1, a2, a3, iff_of_true (.inr rfl) (a4.1 (.inl (by rw [hn]; rfl))), nofun, a6, a7, a8⟩
    exact hKept.sound.silent
  · exact .refl s

/-! A millisecond (log 7) -/

theorem isSome_map {α β : Type} (f : α → β) (x : Option α) : (x.map f).isSome = x.isSome := by cases x <;> rfl

theorem tick_session (s : State) (p : Port) : s.tick.session p = (s.session p).tick := by cases p <;> rfl

theorem tick_link (s : State) (p : Port) : s.tick.links.get p = (s.links.get p).tick := by cases p <;> rfl

theorem Session.Ok.tick {x : Session} {st : EngineState} (h : x.Ok st) : x.tick.Ok st :=
  ⟨h.closed, (isSome_map ..).trans h.lapse, by rw [show x.tick.drainTimer.isSome = _ from isSome_map ..]; exact h.drain, h.epoch,
    h.holdings, h.starting, h.fence⟩

theorem EngineLaw.tick {s : State} (h : EngineLaw s) : EngineLaw s.tick := by
  obtain ⟨a1, a2, a3, a4, a5, a6, a7, a8⟩ := h
  have hScrub : s.tick.arbiter.scrubTimer.isSome = s.arbiter.scrubTimer.isSome := isSome_map ..
  have hLeak : s.tick.integrity.leakTimer.isSome = s.integrity.leakTimer.isSome := by
    show (if s.running then s.integrity.leakTimer.map (· - 1) else s.integrity.leakTimer).isSome = _
    split
    · exact isSome_map ..
    · rfl
  exact ⟨a1, a2, fun hs => hLeak.trans (a3 hs), by rw [hScrub]; exact a4, by rw [hScrub]; exact a5, a6, a7, a8⟩

theorem eventOk_tick (s : State) : EventOk s s.tick := by
  have hOpen : ∀ p, s.tick.isOpen p = s.isOpen p := fun p => by
    rw [State.isOpen, tick_session]
    rfl
  have hKept : Kept s s.tick := by
    refine ⟨fun ho p => ?_, fun hi => ⟨fun p => ?_, hi.faults, hi.settings, hi.engine.tick, hi.positions, hi.journal.of_eq rfl rfl rfl rfl rfl rfl rfl rfl,
      hi.blocks.of_eq rfl rfl rfl rfl rfl (fun _ => Iff.rfl) rfl⟩, rfl, rfl, fun _ hb => hb⟩
    · obtain ⟨h1, h2, h3⟩ := ho p
      show (s.tick.links.get p).OutOk
      rw [tick_link]
      exact ⟨h1, h2, (by rw [show (Link.tick _).trainingLimit.isSome = _ from isSome_map ..]; exact h3)⟩
    · have := tick_session s p
      rw [session_eq] at this
      rw [this]
      exact (hi.ports p).tick
  refine Sound.quiet (hKept.sound_of_session (fun q => ⟨hOpen q, ?_⟩) rfl rfl rfl rfl rfl rfl rfl) hOpen rfl rfl (isSome_map ..)
  rw [tick_session]
  exact ⟨rfl, rfl, rfl⟩

end Sys2Proof.Machine
end

section
/-! PROOFS. What the resets keep, and the laws after them. -/

-- The proofs are checked one after the other: run at once, their threads would exceed the memory bound of the check.
set_option Elab.async false

namespace Sys2Proof.Machine

/-- What a warm reset does in every engine state, the scrub pace timer left as `timer`. -/
def State.resetWith (s : State) (cause : ResetCause) (pins : BitVec 2) (timer : Option Nat) : State :=
  (s.resetCommon cause pins).setArbiter { (s.resetCommon cause pins).arbiter with scrubTimer := timer }

theorem warmReset_of_initializing {s : State} (h : s.engine.state = .initializing) (cause : ResetCause) (pins : BitVec 2) :
    s.warmReset cause pins = (s.resetWith cause pins none).startInitialisation := by
  unfold State.warmReset
  rw [h]
  rfl

theorem warmReset_of_ready {s : State} (h : s.engine.state = .ready) (cause : ResetCause) (pins : BitVec 2) :
    s.warmReset cause pins = s.resetWith cause pins (paceTimer s.settings.scrubPace) := by
  unfold State.warmReset
  rw [h]
  rfl

theorem warmReset_of_frozen {s : State} (h : s.engine.state = .frozen) (cause : ResetCause) (pins : BitVec 2) :
    s.warmReset cause pins = ((s.resetWith cause pins (paceTimer s.settings.scrubPace)).setEngine
      { state := .ready, rememberedFreeze := false, initPos := s.engine.initPos, armed := s.engine.armed }).testProgress := by
  unfold State.warmReset
  rw [h]
  rfl

theorem resetWith_session (s : State) (cause : ResetCause) (pins : BitVec 2) (timer : Option Nat) (p : Port) :
    (s.resetWith cause pins timer).session p = (s.session p).afterReset (decide (cause = .clearing)) := by cases p <;> rfl

/-! The parts after a reset -/

theorem Session.afterReset_ok (x : Session) (b : Bool) (st : EngineState) :
    (x.afterReset b).state.isOpen = false ∧ (x.afterReset b).Ok st := by
  have hState : (x.afterReset b).state = if x.state = .fenced then .fenced else .detached := rfl
  have hClosed : (x.afterReset b).state.isOpen = false := by
    rw [hState]
    split <;> rfl
  refine ⟨hClosed, fun _ => ⟨rfl, rfl⟩, hClosed.symm, iff_of_false nofun fun hd => ?_, fun ho => absurd (hClosed.symm.trans ho) nofun,
    Nat.zero_le _, fun _ => hClosed, ?_⟩
  · rw [hState] at hd
    split at hd <;> cases hd
  · show decide (_ = SessionState.fenced) = true ↔ (x.afterReset b).state = .fenced
    rw [decide_eq_true_iff]
    exact Iff.rfl

theorem Positions.afterReset {x : Sweeper} (h1 : x.position < 1024) (h2 : x.endMarker < 1024) (b : Bool) :
    (x.afterReset b).position < 1024 ∧ (x.afterReset b).endMarker < 1024 := by
  unfold Sweeper.afterReset
  split
  · exact ⟨h1, h1⟩
  · exact ⟨h1, h2⟩

/-- With no live entry, no orphan and no pooled slot, the journal keeps its laws whatever its slots hold. -/
theorem JournalOk.of_empty {s : State} (h1 : s.journal.store.wf = true) (h2 : ∀ x ∈ s.journal.store, x.1 < 1024)
    (h3 : s.journal.index = []) (h4 : s.journal.pool = []) (h5 : s.journal.orphans = []) : JournalOk s := by
  have hAssoc : ∀ n, s.assoc n = none := fun n => by
    rw [assoc_eq, h3]
    rfl
  have hLives : ∀ n k e, ¬s.Lives n k e := fun n k e hl => by
    obtain ⟨a, ha, -⟩ := lives_iff.1 hl
    rw [hAssoc] at ha
    cases ha
  have hPool : ∀ n, n ∉ s.journal.pool := fun n hn => by
    rw [h4] at hn
    cases hn
  refine ⟨⟨h1, by rw [h3]; rfl, h2, fun n hn => absurd (hAssoc n) hn, fun n hn => absurd hn (hPool n), by rw [h4]; exact .nil,
    fun n hn => absurd hn (hPool n), fun n a ha => absurd ((hAssoc n).symm.trans ha) nofun, fun _ => ⟨h3, fun n hn => absurd hn (hPool n)⟩⟩,
    ⟨fun hl => absurd hl (hLives _ _ _), fun hl => absurd hl (hLives _ _ _), fun hl => absurd hl (hLives _ _ _),
      fun hl => absurd hl (hLives _ _ _), by rw [h5]; exact .nil, by rw [h5]; exact .nil, fun o => ?_⟩⟩
  rw [h5]
  exact iff_of_false nofun fun ⟨n, e, hl, _⟩ => hLives n o.key e hl

/-! A warm reset -/

theorem inv_resetWith {s : State} (h : Inv s) (cause : ResetCause) (pins : BitVec 2) {timer : Option Nat}
    (hTimer : timer.isSome = true ↔ s.engine.state ≠ .initializing ∧ s.settings.scrubPace ≠ 0) : Inv (s.resetWith cause pins timer) := by
  refine ⟨fun p => ?_, h.faults, h.settings, ?_, ?_, h.journal.of_eq rfl rfl rfl rfl rfl rfl rfl rfl,
    h.blocks.of_eq rfl rfl rfl rfl rfl (fun _ => Iff.rfl) rfl⟩
  · have := resetWith_session s cause pins timer p
    rw [session_eq] at this
    rw [this]
    exact (Session.afterReset_ok _ _ _).2
  · obtain ⟨a1, -, a3, -, -, a6, a7, -⟩ := h.engine
    exact ⟨a1, nofun, a3, ⟨fun ht => hTimer.1 (ht.resolve_right nofun), fun ht => .inl (hTimer.2 ht)⟩, fun ht => absurd ht.2 nofun,
      a6, a7, nofun⟩
  · obtain ⟨h1, h2⟩ := Positions.afterReset h.positions.1 h.positions.2.1 (s.isOpen .a || s.isOpen .b)
    exact ⟨h1, h2, h.positions.2.2⟩

theorem inv_startInitialisation {s : State} (h : Inv s) (hs : s.engine.state = .initializing) : Inv s.startInitialisation := by
  have hIndex := (h.journal.starting hs).1
  have hOrphans : s.journal.orphans = [] := by
    refine List.eq_nil_iff_forall_not_mem.2 fun o ho => ?_
    obtain ⟨n, e, hl, -⟩ := (h.journal.table.listed o).1 ho
    obtain ⟨a, ha, -⟩ := lives_iff.1 hl
    rw [h.journal.free_of_starting hs] at ha
    cases ha
  refine ⟨fun p => ?_, h.faults, h.settings, ?_, h.positions, .of_empty h.journal.storeWf h.journal.storeRange hIndex rfl hOrphans, ?_⟩
  · show (s.sessions.get p).Ok .initializing
    rw [← hs]
    exact h.ports p
  · obtain ⟨-, a2, a3, a4, a5, a6, a7, a8⟩ := h.engine
    refine ⟨iff_of_true rfl (by decide : (0 : Nat) < 1024), fun _ => rfl, fun hn => absurd rfl hn, a4.trans (and_congr_left' ?_), a5, a6, a7,
      fun hr => absurd hs (a8 hr).2⟩
    exact iff_of_false (fun hn => hn hs) fun hn => hn rfl
  · exact ⟨h.blocks.retirement, fun n hn => absurd hn List.not_mem_nil, h.blocks.liveHome, fun _ => h.blocks.starting hs, h.blocks.reserve⟩

theorem inv_warmReset {s : State} (h : Inv s) (cause : ResetCause) (pins : BitVec 2) : Inv (s.warmReset cause pins) := by
  cases hs : s.engine.state with
  | initializing =>
    rw [warmReset_of_initializing hs]
    exact inv_startInitialisation (inv_resetWith h cause pins (iff_of_false nofun fun hn => hn.1 hs)) hs
  | ready =>
    rw [warmReset_of_ready hs]
    exact inv_resetWith h cause pins ((paceTimer_isSome _).trans ⟨fun h0 => ⟨by rw [hs]; nofun, h0⟩, fun h0 => h0.2⟩)
  | frozen =>
    rw [warmReset_of_frozen hs]
    have hReset := inv_resetWith h cause pins (timer := paceTimer s.settings.scrubPace)
      ((paceTimer_isSome _).trans ⟨fun h0 => ⟨by rw [hs]; nofun, h0⟩, fun h0 => h0.2⟩)
    exact (kept_testProgress _).inv ((kept_setEngineState (s := s.resetWith cause pins (paceTimer s.settings.scrubPace)) (st := .ready)
      (fun h0 => absurd (hs.symm.trans h0) nofun) nofun).inv hReset)

/-! What every reset leaves: sessions closed, links down, no notice -/

/-- After a reset nothing is open, sent or told. -/
structure Quieted (t : State) : Prop where
  closed : ∀ p, t.isOpen p = false
  outbound : OutboundLaw t
  timer : t.notices.repeatTimer = none
  held : t.notices.held = none
  busy : BusyLaw t

theorem Quieted.eventOk {s t : State} (h : Quieted t) (hi : Inv s → Inv t) (hs : Inv s → Settled s → Settled t) : EventOk s t :=
  ⟨fun _ => h.outbound, hi, hs, fun h0 _ _ p => portCounted_of_closed (hi h0) (h.closed p), fun _ => h.busy,
    fun _ => ⟨iff_of_false (by rw [h.timer]; nofun) fun ⟨p, hp, _⟩ => absurd ((h.closed p).symm.trans hp) nofun, h.held⟩⟩

theorem outboundLaw_down {t : State} (h : t.links = ⟨{}, {}⟩) : OutboundLaw t := fun p => by
  show (t.links.get p).OutOk
  rw [h]
  cases p <;> exact Link.outOk_of_empty rfl rfl (iff_of_false nofun nofun)

theorem resetWith_quieted (s : State) (cause : ResetCause) (pins : BitVec 2) (timer : Option Nat) :
    Quieted (s.resetWith cause pins timer) := by
  refine ⟨fun p => ?_, outboundLaw_down rfl, rfl, rfl, iff_of_false nofun nofun⟩
  rw [State.isOpen, resetWith_session]
  exact (Session.afterReset_ok _ _ .ready).1

theorem Quieted.of_parts {s t : State} (h : Quieted s) (h1 : t.sessions = s.sessions) (h2 : OutboundLaw s → OutboundLaw t)
    (h3 : t.notices.repeatTimer = s.notices.repeatTimer) (h4 : s.notices.held = none → t.notices.held = none)
    (h5 : t.service = s.service) : Quieted t :=
  ⟨fun p => (isOpen_of_sessions h1 p).trans (h.closed p), h2 h.outbound, h3.trans h.timer, h4 h.held, by
    rw [BusyLaw, h5]
    exact h.busy⟩

theorem raiseBoth_held_none {s : State} (h : s.notices.held = none) (k : NoticeKind) (w : Option Word) :
    (s.raiseBoth k w).notices.held = none := by
  unfold State.raiseBoth
  exact raise_held_none (raise_held_none h ..) ..

theorem testProgress_held {s : State} (h : s.notices.held = none) : s.testProgress.notices.held = none := by
  rcases testProgress_cases s with ⟨ht, -⟩ | ⟨b, -, -, -, ht⟩ | ⟨b, -, -, -, ht⟩
  · rw [ht]
    exact h
  · rw [ht]
    exact raiseBoth_held_none (by simpa using h) ..
  · rw [ht]
    simpa using h

theorem warmReset_quieted (s : State) (cause : ResetCause) (pins : BitVec 2) : Quieted (s.warmReset cause pins) := by
  cases hs : s.engine.state with
  | initializing =>
    rw [warmReset_of_initializing hs]
    exact (resetWith_quieted s cause pins none).of_parts rfl id rfl id rfl
  | ready =>
    rw [warmReset_of_ready hs]
    exact resetWith_quieted ..
  | frozen =>
    rw [warmReset_of_frozen hs]
    exact (resetWith_quieted s cause pins (paceTimer s.settings.scrubPace)).of_parts (by simp) (fun h => (kept_testProgress _).outbound h) (by simp)
      (fun h => testProgress_held h) (by simp)

theorem settled_warmReset {s : State} (hi : Inv s) (h : Settled s) (cause : ResetCause) (pins : BitVec 2) :
    Settled (s.warmReset cause pins) := by
  cases hs : s.engine.state with
  | initializing =>
    rw [warmReset_of_initializing hs]
    exact settled_of_idle (hi.blocks.starting hs)
  | ready =>
    rw [warmReset_of_ready hs]
    exact h.of_eq rfl rfl rfl rfl
  | frozen =>
    rw [warmReset_of_frozen hs]
    exact settled_testProgress hi.blocks.retirement

theorem eventOk_warmReset (s : State) (cause : ResetCause) (pins : BitVec 2) : EventOk s (s.warmReset cause pins) :=
  (warmReset_quieted s cause pins).eventOk (fun h => inv_warmReset h cause pins) fun hi h => settled_warmReset hi h cause pins

/-! A clearing reset -/

theorem clearing_block (i : Integrity) (b : Nat) : i.afterClearing.block b =
    if b < 16 ∧ ((i.block b).state.inProgress = true ∨ b ∈ i.retireQueue) then { i.block b with state := .retired } else i.block b := by
  unfold Integrity.afterClearing
  by_cases h : b < 16
  · simp [Integrity.block, h]
  · simp [Integrity.block, h]

theorem clearing_state (i : Integrity) (b : Nat) : (i.afterClearing.block b).state.inProgress = false := by
  rw [clearing_block]
  split
  · rfl
  · next h =>
    rw [Classical.not_and_iff_not_or_not] at h
    rcases h with h | h
    · rw [show i.block b = {} from by simp [Integrity.block, h]]
      rfl
    · exact Bool.eq_false_iff.2 fun hp => h (.inl hp)

theorem clearing_bucket (i : Integrity) (b : Nat) : (i.afterClearing.block b).bucket = (i.block b).bucket := by
  rw [clearing_block]
  split <;> rfl

theorem countP_range_le {P : Nat → Bool} {l : List Nat} {n : Nat} (h : ∀ b, b < n → P b = true → b ∈ l) :
    (List.range n).countP P ≤ l.length := by
  rw [List.countP_eq_length_filter]
  refine List.Nodup.length_le_of_subset (List.nodup_range.filter _) fun b hb => ?_
  obtain ⟨hRange, hP⟩ := List.mem_filter.1 hb
  exact h b (List.mem_range.1 hRange) hP

/-- R172: the blocks RETIRED after a clearing reset are those that were so, in progress or queued. -/
theorem retiredCount_clearing {s t : State} (h : RetirementLaw s) (ht : t.integrity = s.integrity.afterClearing) :
    t.retiredCount ≤ s.retirementCount := by
  have hLength : s.retirementCount =
      ((List.range 16).filter (fun b => decide ((s.block b).state = .retired)) ++ s.inProgress.toList ++ s.integrity.retireQueue).length := by
    rw [List.length_append, List.length_append, ← List.countP_eq_length_filter]
    rfl
  rw [hLength]
  refine countP_range_le fun b hb hRetired => ?_
  rw [List.mem_append, List.mem_append, List.mem_filter]
  have hState := of_decide_eq_true hRetired
  rw [block_eq, ht, clearing_block] at hState
  split at hState
  · next hc =>
    rcases hc.2 with hc | hc
    · exact .inl (.inr (Option.mem_toList.2 (h.inProgress_eq hc)))
    · exact .inr hc
  · exact .inl (.inl ⟨List.mem_range.2 hb, decide_eq_true hState⟩)

theorem BlocksOk.clearing {s t : State} (h : RetirementLaw s) (ht : t.integrity = s.integrity.afterClearing)
    (h1 : t.journal.index = []) (h2 : t.journal.pool = []) : BlocksOk t := by
  have hBlock : ∀ b, t.block b = s.integrity.afterClearing.block b := fun b => by rw [block_eq, ht]
  have hIdle : t.inProgress = none := inProgress_eq_none_iff.2 fun b => by rw [hBlock, clearing_state]
  have hAssoc : ∀ n, t.assoc n = none := fun n => by
    rw [assoc_eq, h1]
    rfl
  refine ⟨⟨fun b => ?_, fun b c hb => ?_, by rw [ht]; exact .nil, fun b hb => ?_, ?_, fun _ => by rw [ht]; rfl⟩, fun n hn => ?_,
    fun n hn => absurd (hAssoc n) hn, fun _ => hIdle, fun b hb => absurd (hIdle.symm.trans hb) nofun⟩
  · rw [hBlock, clearing_bucket]
    exact h.1 b
  · rw [hBlock, clearing_state] at hb
    cases hb
  · rw [ht] at hb
    cases hb
  · have hQueue : t.integrity.retireQueue = [] := by
      rw [ht]
      rfl
    rw [State.retirementCount, hIdle, hQueue]
    exact Nat.le_trans (retiredCount_clearing h ht) h.2.2.2.2.1
  · rw [h2] at hn
    cases hn

theorem nextGeneration_ne_zero (g : Half) : nextGeneration g ≠ 0#16 := nextEpoch_ne_zero g

theorem inv_clearingReset {s : State} (h : Inv s) (pins : BitVec 2) : Inv (s.clearingReset pins) := by
  have hPositions := Positions.afterReset h.positions.1 h.positions.2.1 (s.isOpen .a || s.isOpen .b)
  refine ⟨fun p => ?_, h.faults, h.settings, ?_, ⟨hPositions.1, hPositions.2, h.positions.2.2⟩,
    .of_empty h.journal.storeWf h.journal.storeRange rfl rfl rfl, .clearing h.blocks.retirement rfl rfl rfl⟩
  · have hSession : (s.clearingReset pins).sessions.get p = (s.session p).afterReset true := by cases p <;> rfl
    rw [hSession]
    exact (Session.afterReset_ok _ _ _).2
  · exact ⟨iff_of_true rfl (by decide : (0 : Nat) < 1024), nofun, fun hn => absurd rfl hn,
      iff_of_false (fun ht => ht.elim nofun nofun) fun hn => hn.1 rfl, fun ht => absurd ht.1 nofun, (by decide : (1#64 : Stamp) ≠ 0#64), nextGeneration_ne_zero _, nofun⟩

theorem eventOk_clearingReset (s : State) (pins : BitVec 2) : EventOk s (s.clearingReset pins) := by
  have hQuiet : Quieted (s.clearingReset pins) := by
    refine ⟨fun p => ?_, outboundLaw_down rfl, rfl, rfl, iff_of_false nofun nofun⟩
    have hSession : (s.clearingReset pins).session p = (s.session p).afterReset true := by cases p <;> rfl
    rw [State.isOpen, hSession]
    exact (Session.afterReset_ok _ _ .ready).1
  exact hQuiet.eventOk (fun h => inv_clearingReset h pins) fun _ _ => nofun

/-! A power-on reset -/

theorem inv_poweredOn (pins : BitVec 2) (n : Nat) (q : List Instr) : Inv (State.poweredOn pins n q) := by
  have hReset : Inv State.reset := .of_lawful lawsHoldAtReset.1
  exact ⟨hReset.ports, hReset.faults, hReset.settings, hReset.engine, hReset.positions, .of_empty rfl nofun rfl rfl rfl,
    hReset.blocks.of_eq rfl rfl rfl rfl rfl (fun _ => Iff.rfl) rfl⟩

theorem eventOk_poweredOn (s : State) (pins : BitVec 2) (n : Nat) (q : List Instr) : EventOk s (State.poweredOn pins n q) := by
  have hQuiet : Quieted (State.poweredOn pins n q) :=
    ⟨fun p => by cases p <;> rfl, outboundLaw_down rfl, rfl, rfl, iff_of_false nofun nofun⟩
  exact hQuiet.eventOk (fun _ => inv_poweredOn pins n q) fun _ _ => nofun

end Sys2Proof.Machine
end

section
/-! PROOFS. Every command of the machine keeps the laws, one event each, and so does a millisecond: the statements of the laws. -/

-- The proofs are checked one after the other: run at once, their threads would exceed the memory bound of the check.
set_option Elab.async false

namespace Sys2Proof.Machine

/-! Writes to the service port (R175, R176, R184) -/

theorem EventOk.after_service {s u : State} {x : ServicePort} (hx : x.settings = s.service.settings) (hBusy : BusyLaw s → BusyLaw u)
    (h : EventOk (s.setService x) u) : EventOk s u := by
  have hs := steady_setService hx
  exact ⟨fun ho => h.outbound (hs.outbound ho), fun hi => h.inv (hs.inv hi), fun hi ht => h.settled (hs.inv hi) (hs.settled hi ht),
    fun hi hf hc => h.counted (hs.inv hi) hf (hs.counted hi hc), hBusy, fun hn => h.notice hn⟩

theorem eventOk_setService {s : State} {x : ServicePort} (hx : x.settings = s.service.settings)
    (hBusy : BusyLaw s → BusyLaw (s.setService x)) : EventOk s (s.setService x) := (EventOk.refl _).after_service hx hBusy

/-- What a write leaves: the service port alone changed, its settings and a request that waits kept. -/
theorem write_cases (s : State) (bytes : List Byte) :
    (s.service.target = .busy ∧ s.write bytes = none) ∨
    (s.service.target ≠ .busy ∧ ∃ x : ServicePort, s.write bytes = some (s.setService x) ∧ x.settings = s.service.settings ∧
      x.inProgress = s.service.inProgress) := by
  by_cases h : s.service.target = .busy
  · exact .inl ⟨h, write_of_busy bytes h⟩
  · refine .inr ⟨h, ?_⟩
    rw [write_eq bytes h]
    unfold State.stopWrite
    dsimp only
    split
    all_goals exact ⟨_, rfl, rfl, rfl⟩

theorem waiting_of_not_busy {s : State} (h : BusyLaw s) (hNot : s.service.target ≠ .busy) : s.service.inProgress.isSome = false :=
  Bool.eq_false_iff.2 fun hw => hNot (h.2 hw)

theorem eventOk_unknown {bytes : List Byte} {s t : State} (h : execUnknown bytes s = .next t) : EventOk s t := by
  obtain rfl := Host.Outcome.next.inj h
  rcases write_cases s bytes with ⟨-, hWrite⟩ | ⟨hNot, x, hWrite, hSettings, hWaits⟩
  · rw [hWrite]
    exact .refl s
  · rw [hWrite]
    dsimp only
    split
    · split
      · exact EventOk.after_service hSettings (fun _ => busyLaw_complete ..)
          (eventOk_setService rfl fun _ => busyLaw_complete ..)
      · exact .refl s
    · next hx =>
      refine eventOk_setService hSettings fun hb => iff_of_false hx ?_
      show ¬x.inProgress.isSome = true
      rw [hWaits, waiting_of_not_busy hb hNot]
      nofun

theorem request_accepted (x : GrantRequest) : x.params.length ≤ 14 ∧ paramLength x.code = some x.params.length := by
  cases x <;> exact ⟨by simp [GrantRequest.params, bytesOf], rfl⟩

theorem eventOk_serviceRequestAccepted {x : GrantRequest} {s t : State} (h : execServiceRequestAccepted x s = .next t) : EventOk s t := by
  obtain rfl := Host.Outcome.next.inj h
  by_cases hBusy : s.service.target = .busy
  · rw [write_of_busy _ hBusy]
    exact .refl s
  · rw [write_of_accepted hBusy (request_accepted x).1 (request_accepted x).2]
    exact eventOk_setService (x := { s.service with
      target := .busy, collection := [], overlong := false, sent := 0, result := none, inProgress := some x }) rfl
      fun _ => iff_of_true rfl rfl

theorem eventOk_warmResetKeep {pins : BitVec 2} {s t : State} (h : execWarmResetKeep pins s = .next t) : EventOk s t := by
  obtain rfl := Host.Outcome.next.inj h
  rcases write_cases s (requestBytes 0x31 [0x01]) with ⟨-, hWrite⟩ | ⟨-, x, hWrite, hSettings, -⟩
  · rw [hWrite]
    exact .refl s
  · rw [hWrite]
    exact (eventOk_warmReset _ .warmService pins).after_service hSettings fun _ => (warmReset_quieted _ .warmService pins).busy

theorem eventOk_warmResetClear {pins : BitVec 2} {s t : State} (h : execWarmResetClear pins s = .next t) : EventOk s t := by
  obtain rfl := Host.Outcome.next.inj h
  rcases write_cases s (requestBytes 0x31 [0x02]) with ⟨-, hWrite⟩ | ⟨-, x, hWrite, hSettings, -⟩
  · rw [hWrite]
    exact .refl s
  · rw [hWrite]
    exact (eventOk_clearingReset _ pins).after_service hSettings fun _ => iff_of_false nofun nofun

/-! The requests at their grant (R178) -/

theorem eventOk_readSlot {w : SlotWear} {s t : State} (h : execReadSlot w s = .next t) : EventOk s t := by
  obtain rfl := Host.Outcome.next.inj h
  split
  · exact eventOk_serviceGrant (sound_runReadSlot _ w) s
  · exact .refl s

theorem eventOk_freeze {s t : State} (h : execFreeze s = .next t) : EventOk s t := by
  obtain rfl := Host.Outcome.next.inj h
  split
  · exact eventOk_serviceGrant sound_runFreeze s
  · exact .refl s

theorem eventOk_thaw {s t : State} (h : execThaw s = .next t) : EventOk s t := by
  obtain rfl := Host.Outcome.next.inj h
  split
  · exact eventOk_serviceGrant sound_runThaw s
  · exact .refl s

theorem eventOk_retireBlock {s t : State} (h : execRetireBlock s = .next t) : EventOk s t := by
  obtain rfl := Host.Outcome.next.inj h
  split
  · exact eventOk_serviceGrant (sound_runRetireBlock _) s
  · exact .refl s

/-! Every command -/

/-- A service request taken at once whose run reads alone. -/
theorem eventOk_serviceRead {code : Byte} {params : List Byte} {run : State → ServiceResult × State} (hl : params.length ≤ 14)
    (hc : paramLength code = some params.length) (hRun : ∀ u, (run u).2 = u) (s : State) : EventOk s (s.serviceEvent code params run) :=
  eventOk_serviceEvent hl hc (fun u => by rw [hRun]; exact .refl u) (fun u hn => by rw [hRun]; exact hn) s

theorem exec_eventOk {i : Instr} {s t : State} (h : exec i s = .next t) : EventOk s t := by
  cases i with
  | badRequest p | attach p | detachGraceful p | detachAbrupt p | pulse p | openIntent p _ | closeIntent p _ | query p _
  | adopt p _ | resolve p _ | clearMark p | fencePeer p | ackNotice p | status p => exact eventOk_request (p := p) h rfl
  | requestFrame p ws => exact eventOk_requestFrame h
  | powerOnReset pins => exact Host.Outcome.next.inj h ▸ eventOk_poweredOn s pins _ _
  | warmPin pins => exact Host.Outcome.next.inj h ▸ eventOk_warmReset s _ pins
  | warmResetKeep pins => exact eventOk_warmResetKeep h
  | warmResetClear pins => exact eventOk_warmResetClear h
  | signalDetect p => exact eventOk_signalDetect h
  | trainingCompletes p => exact eventOk_trainingCompletes h
  | trainingLimitExpiry p => exact eventOk_trainingLimitExpiry h
  | lossOfLock p => exact eventOk_lossOfLock h
  | frameTransmit p => exact eventOk_frameTransmit h
  | lapseTimerExpiry p => exact eventOk_lapseTimerExpiry h
  | drainTimerExpiry p => exact eventOk_drainTimerExpiry h
  | repeatTimerExpiry => exact eventOk_repeatTimerExpiry h
  | leakTimerExpiry => exact eventOk_leakTimerExpiry h
  | scrubPaceExpiry => exact eventOk_scrubPaceExpiry h
  | scrubRead w => exact eventOk_scrubRead h
  | sweepStep w => exact eventOk_sweepStep h
  | sweepAdvance => exact eventOk_sweepAdvance h
  | relocationMove w => exact eventOk_relocationMove h
  | initialiserWrite => exact eventOk_initialiserWrite h
  | initialiserAdvance => exact eventOk_initialiserAdvance h
  | readSlot w => exact eventOk_readSlot h
  | freeze => exact eventOk_freeze h
  | thaw => exact eventOk_thaw h
  | retireBlock => exact eventOk_retireBlock h
  | unknown bytes => exact eventOk_unknown h
  | serviceRequestAccepted x => exact eventOk_serviceRequestAccepted h
  | getSetting n => exact Host.Outcome.next.inj h ▸ eventOk_serviceRead (by simp) rfl (runGetSetting_state n) s
  | readView v => exact Host.Outcome.next.inj h ▸ eventOk_serviceRead (by simp) rfl (runReadView_state v) s
  | identify => exact Host.Outcome.next.inj h ▸ eventOk_serviceRead (by simp) rfl (fun _ => rfl) s
  | setSetting n v =>
    exact Host.Outcome.next.inj h ▸ eventOk_serviceEvent (by simp [valueBytes, bytesOf]) rfl (fun u => (silent_runSetSetting n v u).1)
      (fun u hn => hn.of_silent (silent_runSetSetting n v u).2.1 (silent_runSetSetting n v u).2.2) s
  | fence b => exact Host.Outcome.next.inj h ▸ eventOk_serviceEvent (by simp) rfl (sound_runFence b) (noticeLaw_runFence b) s
  | unfence b =>
    exact Host.Outcome.next.inj h ▸ eventOk_serviceEvent (by simp) rfl (fun u => (runUnfence_law b u).1) (fun u => (runUnfence_law b u).2) s
  | serviceClearMark b =>
    exact Host.Outcome.next.inj h ▸ eventOk_serviceEvent (by simp) rfl (fun u => (runServiceClearMark_law b u).1)
      (fun u => (runServiceClearMark_law b u).2) s
  | clearFaults c =>
    exact Host.Outcome.next.inj h ▸ eventOk_serviceEvent (by simp) rfl (fun u => (runClearFaults_law c u).1)
      (fun u => (runClearFaults_law c u).2) s

/-- A step is a command's event, or a millisecond. -/
theorem step_eventOk {s t : State} (h : step s = .next t) : EventOk s t := by
  unfold step at h
  split at h
  · obtain rfl := Host.Outcome.next.inj h
    exact eventOk_tick s
  · next c rest _ =>
    have hEvent := exec_eventOk h
    exact ⟨hEvent.outbound, fun hi => hEvent.inv (hi.of_eq rfl rfl rfl rfl rfl rfl rfl rfl rfl rfl rfl rfl rfl rfl rfl rfl rfl rfl),
      fun hi hs => hEvent.settled (hi.of_eq rfl rfl rfl rfl rfl rfl rfl rfl rfl rfl rfl rfl rfl rfl rfl rfl rfl rfl) hs,
      fun hi hf hc => hEvent.counted (hi.of_eq rfl rfl rfl rfl rfl rfl rfl rfl rfl rfl rfl rfl rfl rfl rfl rfl rfl rfl) hf hc,
      hEvent.busy, hEvent.notice⟩

/-! The laws that every step keeps -/

/-- A step from a lawful state keeps `Inv`. -/
theorem inv_step {s t : State} (hs : Lawful s) (h : step s = .next t) : Inv t := (step_eventOk h).inv (.of_lawful hs)

theorem busyLaw_of_lawful {s : State} (h : Lawful s) : BusyLaw s := by
  obtain ⟨-, -, -, ⟨-, -, hBusy, -⟩, -⟩ := h
  exact hBusy

theorem noticeLaw_of_lawful {s : State} (h : Lawful s) : NoticeLaw s := by
  obtain ⟨-, -, -, -, -, -, hNotice, -⟩ := h
  exact hNotice

/-- Settles O7, by the events. -/
theorem everyStepKeepsOutboundLaw : Obligations.EveryStepKeepsOutboundLaw := fun _ _ hs h => (step_eventOk h).outbound hs

/-- Settles O8, by the events; the counts are those of the live holds and adoptions, slot by slot. -/
theorem everyStepKeepsSessionLaw : Obligations.EveryStepKeepsSessionLaw := by
  unfold Obligations.EveryStepKeepsSessionLaw
  refine ⟨fun s t hs h => (inv_step hs h).sessionLaw, fun s t hs hc hf h => ?_⟩
  have hi : Inv s := .of_lawful hs
  rw [countLaw_iff (inv_step hs h).journal.toSlotsOk]
  exact (step_eventOk h).counted hi hf ((countLaw_iff hi.journal.toSlotsOk).1 hc)

/-- Settles O9, by the events. -/
theorem everyStepKeepsLinesAndSettings : Obligations.EveryStepKeepsLinesAndSettings := fun _ _ hs h =>
  ⟨(inv_step hs h).lineLaw ((step_eventOk h).busy (busyLaw_of_lawful hs)), (inv_step hs h).settings⟩

/-- Settles O10, by the events. -/
theorem everyStepKeepsEngineLaw : Obligations.EveryStepKeepsEngineLaw := fun _ _ hs h => (inv_step hs h).engine

/-- Settles O11, by the events: each ends with the repeat timer judged, or touches nothing of its condition. -/
theorem everyStepKeepsNoticeLaw : Obligations.EveryStepKeepsNoticeLaw := fun _ _ hs h => (step_eventOk h).notice (noticeLaw_of_lawful hs)

/-- Settles O12, by the events. -/
theorem everyStepKeepsSlotLaw : Obligations.EveryStepKeepsSlotLaw := fun _ _ hs h => (inv_step hs h).slotLaw

/-- Settles O13, by the events. -/
theorem everyStepKeepsJournalLaw : Obligations.EveryStepKeepsJournalLaw := fun _ _ hs h => (inv_step hs h).journalLaw

/-- Settles O14, by the events. -/
theorem everyStepKeepsEntryLaw : Obligations.EveryStepKeepsEntryLaw := fun _ _ hs h => (inv_step hs h).entryLaw

/-- Settles O15, by the events. -/
theorem everyStepKeepsOrphanLaw : Obligations.EveryStepKeepsOrphanLaw := fun _ _ hs h => (inv_step hs h).orphanLaw

/-- Settles O16, by the events. -/
theorem everyStepKeepsRetirementLaw : Obligations.EveryStepKeepsRetirementLaw := fun _ _ hs h => (inv_step hs h).blocks.retirement

/-- Settles O17, by the events; the tests of a READY engine are made wherever one of their conditions changes. -/
theorem everyStepKeepsReserveLaw : Obligations.EveryStepKeepsReserveLaw := fun _ _ hs h =>
  (inv_step hs h).reserveLaw ((step_eventOk h).settled (.of_lawful hs) (.of_lawful hs))

end Sys2Proof.Machine
end

section
/-! PROOFS. The statements about the warm and the clearing reset. -/

-- The proofs are checked one after the other: run at once, their threads would exceed the memory bound of the check.
set_option Elab.async false

namespace Sys2Proof.Machine

theorem afterReset_eq (x : Session) (b : Bool) : x.afterReset b = { x with
    state := if x.state = .fenced then .fenced else .detached
    holdings := 0, adoptions := 0, lapseTimer := none, drainTimer := none, fenceLine := decide (x.state = .fenced)
    clearedSince := x.clearedSince || b } := by
  have : decide ((if x.state = .fenced then SessionState.fenced else .detached) = .fenced) = decide (x.state = .fenced) := by
    split <;> simp [*]
  unfold Session.afterReset Session.closeTo
  rw [this]

theorem sweeper_afterReset (s : State) : s.sweeper.afterReset (s.isOpen .a || s.isOpen .b) =
    if s.isOpen .a = true ∨ s.isOpen .b = true then { s.sweeper with pending := true, endMarker := s.sweeper.position } else s.sweeper := by
  unfold Sweeper.afterReset
  simp only [Bool.or_eq_true]

/-- A reset reads of the service port its settings alone. -/
theorem warmReset_setService {s : State} {x : ServicePort} (hx : x.settings = s.service.settings) (cause : ResetCause) (pins : BitVec 2) :
    (s.setService x).warmReset cause pins = s.warmReset cause pins := by
  have hCommon : (s.setService x).resetCommon cause pins = s.resetCommon cause pins := by
    unfold State.resetCommon
    rw [show (s.setService x).service.settings = s.service.settings from hx]
    rfl
  unfold State.warmReset
  rw [hCommon]
  rfl

theorem clearingReset_setService {s : State} {x : ServicePort} (hx : x.settings = s.service.settings) (pins : BitVec 2) :
    (s.setService x).clearingReset pins = s.clearingReset pins := by
  have hCommon : (s.setService x).resetCommon .clearing pins = s.resetCommon .clearing pins := by
    unfold State.resetCommon
    rw [show (s.setService x).service.settings = s.service.settings from hx]
    rfl
  unfold State.clearingReset
  rw [hCommon]
  rfl

theorem exec_warmReset {pins : BitVec 2} {s : State} {c : Instr} {cause : ResetCause}
    (h : (c = .warmPin pins ∧ cause = .warmPin) ∨ (c = .warmResetKeep pins ∧ cause = .warmService ∧ s.service.target ≠ .busy)) :
    exec c s = .next (s.warmReset cause pins) := by
  rcases h with ⟨rfl, rfl⟩ | ⟨rfl, rfl, hNot⟩
  · rfl
  · rcases write_cases s (requestBytes 0x31 [0x01]) with ⟨hBusy, -⟩ | ⟨-, x, hWrite, hSettings, -⟩
    · exact absurd hBusy hNot
    · have hExec : exec (.warmResetKeep pins) s = .next (match s.write (requestBytes 0x31 [0x01]) with
        | none => s | some t => t.warmReset .warmService pins) := rfl
      rw [hExec, hWrite]
      exact congrArg _ (warmReset_setService hSettings .warmService pins)

/-! The tests for the block in progress (R166, R169) -/

theorem setBlockState_state {s : State} {b : Nat} (h : b < 16) (st : BlockState) : ((s.setBlockState b st).block b).state = st := by
  rw [setBlockState_block, if_pos ⟨rfl, h⟩]

/-- What the tests of a READY engine do to the integrity unit. -/
theorem testProgress_integrity {s : State} (hReady : s.engine.state = .ready) :
    s.testProgress.integrity.retireQueue = s.integrity.retireQueue ∧ s.testProgress.integrity.leakTimer = s.integrity.leakTimer ∧
    s.testProgress.integrity.scrubPosition = s.integrity.scrubPosition ∧
    (∀ b, (s.testProgress.block b).bucket = (s.block b).bucket) ∧ (∀ b, s.inProgress ≠ some b → s.testProgress.block b = s.block b) ∧
    (s.inProgress = none → s.testProgress.integrity = s.integrity) ∧
    ∀ b, s.inProgress = some b →
      if s.integrity.reserve = 0 then (s.testProgress.block b).state = .retired ∧ s.testProgress.integrity.reserve = 0
      else s.testProgress.integrity.reserve = s.integrity.reserve ∧
        (s.testProgress.block b).state = if s.integrity.reserve ≤ s.pooled then .moving else .closing := by
  rcases testProgress_cases s with ⟨ht, hNot | hNone⟩ | ⟨b, -, hb, h0, ht⟩ | ⟨b, -, hb, hPos, ht⟩
  · exact absurd hReady hNot
  · rw [ht, hNone]
    exact ⟨rfl, rfl, rfl, fun _ => rfl, fun _ _ => rfl, fun _ => rfl, nofun⟩
  · have hlt := lt_of_inProgress (inProgress_of_some hb)
    rw [ht, hb, retire_integrity]
    refine ⟨rfl, rfl, rfl, fun c => ?_, fun c hc => ?_, nofun, fun c hc => ?_⟩
    · rw [retire_block]
      split
      · next h => rw [h.1]
      · rfl
    · rw [retire_block, if_neg fun h => hc (by rw [h.1])]
    · obtain rfl := Option.some.inj hc
      rw [if_pos h0, retire_block, if_pos ⟨rfl, hlt⟩]
      exact ⟨rfl, rfl⟩
  · have hlt := lt_of_inProgress (inProgress_of_some hb)
    rw [ht, hb]
    refine ⟨rfl, rfl, rfl, fun c => ?_, fun c hc => ?_, nofun, fun c hc => ?_⟩
    · rw [setBlockState_block]
      split
      · next h => rw [h.1]
      · rfl
    · rw [setBlockState_block, if_neg fun h => hc (by rw [h.1])]
    · obtain rfl := Option.some.inj hc
      rw [if_neg (Nat.ne_of_gt hPos), setBlockState_state hlt]
      exact ⟨rfl, rfl⟩

/-- A once-only notice raised for a port that is not attached is lost (R142). -/
theorem raise_of_closed {s : State} {p : Port} {k : NoticeKind} (hk : k.repeating = false) (hp : s.isOpen p = false) (w : Option Word) :
    s.raise p k w = s := by
  unfold State.raise State.takeRaise State.sendNotice
  simp only [hk, hp, Bool.or_self, Bool.false_and, Bool.false_eq_true, if_false]
  split <;> rfl

theorem raiseBoth_of_closed {s : State} {k : NoticeKind} (hk : k.repeating = false) (hp : ∀ p, s.isOpen p = false) (w : Option Word) :
    s.raiseBoth k w = s := by
  rw [State.raiseBoth, raise_of_closed hk (hp .a), raise_of_closed hk (hp .b)]

/-- With no session open the tests tell nobody. -/
theorem testProgress_of_closed {s : State} (h : ∀ p, s.isOpen p = false) :
    s.testProgress = s.setIntegrity s.testProgress.integrity := by
  rcases testProgress_cases s with ⟨ht, -⟩ | ⟨b, -, -, -, ht⟩ | ⟨b, -, -, -, ht⟩
  · rw [ht]
    rfl
  · have hRetire : s.retire b = s.setIntegrity { (s.setBlockState b .retired).integrity with reserve := 0 } :=
      raiseBoth_of_closed (s := s.setIntegrity { (s.setBlockState b .retired).integrity with reserve := 0 }) rfl h _
    rw [ht, hRetire]
    rfl
  · rw [ht]
    rfl

/-- The state of a warm reset taken outside INITIALIZING, but for the tests that one taken in FROZEN makes. -/
def State.resetReady (s : State) (cause : ResetCause) (pins : BitVec 2) : State :=
  (s.resetWith cause pins (paceTimer s.settings.scrubPace)).setEngine
    { state := .ready, rememberedFreeze := false, initPos := s.engine.initPos, armed := s.engine.armed }

theorem resetReady_closed (s : State) (cause : ResetCause) (pins : BitVec 2) (p : Port) : (s.resetReady cause pins).isOpen p = false :=
  (resetWith_quieted s cause pins (paceTimer s.settings.scrubPace)).closed p

/-- Settles O20, by the engine state in which the reset is taken. -/
theorem warmResetKeepsTheJournal : Obligations.WarmResetKeepsTheJournal := by
  unfold Obligations.WarmResetKeepsTheJournal
  intro pins s c cause h
  refine ⟨_, exec_warmReset h, ?_⟩
  have hCause : decide (cause = .clearing) = false := by
    rcases h with ⟨-, rfl⟩ | ⟨-, rfl, -⟩ <;> rfl
  have hSession : ∀ p timer, (s.resetWith cause pins timer).session p = { s.session p with
      state := if (s.session p).state = .fenced then .fenced else .detached
      holdings := 0, adoptions := 0, lapseTimer := none, drainTimer := none
      fenceLine := decide ((s.session p).state = .fenced) } := fun p timer => by
    rw [resetWith_session, afterReset_eq, hCause, Bool.or_false]
  have hSweeper := sweeper_afterReset s
  have hLink : ∀ p, (⟨{}, {}⟩ : PerPort Link).get p = {} := fun p => by cases p <;> rfl
  have hTimer : ∀ st : EngineState, st ≠ .initializing → paceTimer s.settings.scrubPace =
      if st = .initializing ∨ s.settings.scrubPace = 0 then none else some s.settings.scrubPace := fun st hst => by
    rw [paceTimer]
    exact ite_congr (propext (or_iff_right hst).symm) (fun _ => rfl) (fun _ => rfl)
  cases hs : s.engine.state with
  | initializing =>
    rw [warmReset_of_initializing hs]
    exact ⟨rfl, fun p => hSession p none, hSweeper, hLink, rfl, rfl, rfl, rfl, rfl, rfl, rfl, rfl,
      fun _ => rfl, rfl, rfl, rfl, fun _ => rfl, fun _ _ => rfl, fun _ => rfl, nofun⟩
  | ready =>
    rw [warmReset_of_ready hs]
    refine ⟨rfl, fun p => hSession p _, hSweeper, hLink, rfl, rfl, rfl, ?_, ?_, rfl, rfl, rfl, fun _ => rfl, rfl, rfl, rfl, fun _ => rfl,
      fun _ _ => rfl, fun _ => rfl, nofun⟩
    · show Engine.mk s.engine.state false s.engine.initPos s.engine.armed = Engine.mk .ready false s.engine.initPos s.engine.armed
      rw [hs]
    · exact congrArg (fun x => ({ s.arbiter with
        pointer := .initialiser, scrubTimer := x, scrubDue := false, sweepRequest := false } : Arbiter)) (hTimer .ready (by decide))
  | frozen =>
    rw [warmReset_of_frozen hs]
    obtain ⟨h1, h2, h3, h4, h5, h6, h7⟩ := testProgress_integrity (s := s.resetReady cause pins) rfl
    have hTests := testProgress_of_closed (resetReady_closed s cause pins)
    have hParts := fun {α : Type} (f : State → α) => congrArg f hTests
    refine ⟨hParts State.resetCtl, fun p => ?_, (hParts State.sweeper).trans hSweeper, fun p => ?_, hParts State.notices,
      hParts State.service, hParts State.journal, hParts State.engine, ?_, hParts State.faults, hParts State.freeCount,
      hParts State.pending, nofun, h1, h2, h3, h4, h5, h6, fun _ => h7⟩
    · exact (hParts fun u => u.session p).trans (hSession p (paceTimer s.settings.scrubPace))
    · exact (hParts fun u => u.link p).trans (hLink p)
    · exact (hParts State.arbiter).trans (congrArg (fun x => ({ s.arbiter with
        pointer := .initialiser, scrubTimer := x, scrubDue := false, sweepRequest := false } : Arbiter)) (hTimer .frozen (by decide)))

theorem exec_clearingReset {pins : BitVec 2} {s : State} (h : s.service.target ≠ .busy) :
    exec (.warmResetClear pins) s = .next (s.clearingReset pins) := by
  rcases write_cases s (requestBytes 0x31 [0x02]) with ⟨hBusy, -⟩ | ⟨-, x, hWrite, hSettings, -⟩
  · exact absurd hBusy h
  · have hExec : exec (.warmResetClear pins) s = .next (match s.write (requestBytes 0x31 [0x02]) with
      | none => s | some t => t.clearingReset pins) := rfl
    rw [hExec, hWrite]
    exact congrArg _ (clearingReset_setService hSettings pins)

/-- Settles O21, by the parts of the reset. -/
theorem clearingResetEmptiesTheJournal : Obligations.ClearingResetEmptiesTheJournal := by
  unfold Obligations.ClearingResetEmptiesTheJournal
  intro pins s hNot
  refine ⟨_, exec_clearingReset hNot, rfl, fun p => ?_, sweeper_afterReset s, fun p => by cases p <;> rfl, rfl, rfl, rfl, rfl, rfl, rfl, rfl,
    rfl, rfl, rfl, fun b hb => ?_, rfl, rfl, rfl, rfl, rfl, rfl, rfl⟩
  · have hSession : (s.clearingReset pins).session p = (s.session p).afterReset true := by cases p <;> rfl
    rw [hSession, afterReset_eq, Bool.or_true]
  · have hBlock : (s.clearingReset pins).block b = s.integrity.afterClearing.block b := rfl
    rw [hBlock, clearing_block]
    exact ite_congr (propext (and_iff_right hb)) (fun _ => rfl) (fun _ => rfl)

end Sys2Proof.Machine
end

section
/-! PROOFS. Frames (R103, R196, R197): the tests of a received frame, the fields of its words, the CRC bit by bit. -/

-- The proofs are checked one after the other: run at once, their threads would exceed the memory bound of the check.
set_option Elab.async false

namespace Sys2Proof.Machine

/-! Words of fields -/

theorem word2_toNat (hi lo : Nat) : (word2 hi lo).toNat = hi % 65536 * 65536 + lo % 65536 := by
  unfold word2
  rw [BitVec.toNat_ofNat]
  omega

theorem word4_toNat (a b c d : Byte) : (word4 a b c d).toNat = a.toNat * 2 ^ 24 + b.toNat * 2 ^ 16 + c.toNat * 2 ^ 8 + d.toNat := by
  unfold word4
  rw [BitVec.toNat_ofNat]
  have := a.isLt
  have := b.isLt
  have := c.isLt
  have := d.isLt
  omega

theorem extract_toNat (w : Word) (i k : Nat) : (w.extractLsb' i k).toNat = w.toNat / 2 ^ i % 2 ^ k := by
  rw [BitVec.extractLsb'_toNat, Nat.shiftRight_eq_div_pow]

/-- The fields of a request frame's first word. -/
theorem header_fields (kind seq : Byte) (epoch : Epoch) :
    (word2 (kind.toNat * 256 + seq.toNat) epoch.toNat).extractLsb' 24 8 = kind ∧
    (word2 (kind.toNat * 256 + seq.toNat) epoch.toNat).extractLsb' 16 8 = seq ∧
    (word2 (kind.toNat * 256 + seq.toNat) epoch.toNat).extractLsb' 0 16 = epoch := by
  have := kind.isLt
  have := seq.isLt
  have := epoch.isLt
  refine ⟨BitVec.eq_of_toNat_eq ?_, BitVec.eq_of_toNat_eq ?_, BitVec.eq_of_toNat_eq ?_⟩
  all_goals
    rw [extract_toNat, word2_toNat]
    omega

theorem header2_length (n : Nat) (hn : n < 256) (a b c : Byte) : ((word4 (BitVec.ofNat 8 n) a b c).extractLsb' 24 8).toNat = n := by
  have := a.isLt
  have := b.isLt
  have := c.isLt
  rw [extract_toNat, word4_toNat, BitVec.toNat_ofNat]
  omega

/-! The tests of a received frame -/

/-- The payload length that a frame's second word gives. -/
def payloadLength (w : Word) : Nat := (w.extractLsb' 24 8).toNat

theorem receiveFrame_of_length {w0 w1 : Word} {payload : List Word} (crc : Word) (h1 : payload.length ≤ 6)
    (h2 : payloadLength w1 = payload.length) : receiveFrame (w0 :: w1 :: (payload ++ [crc])) =
      if crc = frameCrc (w0 :: w1 :: payload) then
        .good { kind := w0.extractLsb' 24 8, seq := w0.extractLsb' 16 8, epoch := w0.extractLsb' 0 16, payload := payload }
      else .badCrc := by
  have hTake : (payload ++ [crc]).take payload.length = payload := by simp
  have hDrop : (payload ++ [crc]).drop payload.length = [crc] := by simp
  unfold payloadLength at h2
  simp only [receiveFrame, h2]
  rw [if_pos ⟨h1, by simp⟩, hTake, hDrop]
  exact ite_congr (propext (by simp)) (fun _ => rfl) (fun _ => rfl)

theorem receiveFrame_malformed {words : List Word} (h : ¬(3 ≤ words.length ∧ payloadLength (words[1]?.getD 0) ≤ 6 ∧
    words.length = 3 + payloadLength (words[1]?.getD 0))) : receiveFrame words = .malformed := by
  unfold receiveFrame
  split
  · next w0 w1 rest =>
    refine if_neg fun ⟨h1, h2⟩ => h ?_
    have hLen : payloadLength w1 ≤ 6 := h1
    have hRest : rest.length = payloadLength w1 + 1 := h2
    simp only [List.length_cons, hRest]
    exact ⟨by omega, hLen, by simp; omega⟩
  · rfl

theorem receiveFrame_content {content : List Word} (crc : Word) (h1 : 2 ≤ content.length) (h2 : payloadLength (content[1]?.getD 0) ≤ 6)
    (h3 : content.length = 2 + payloadLength (content[1]?.getD 0)) : ∃ r, receiveFrame (content ++ [crc]) =
      if crc = frameCrc content then .good r else .badCrc := by
  match content with
  | [] => cases h1
  | [_] => exact absurd h1 (by simp)
  | w0 :: w1 :: payload =>
    have h2' : payloadLength w1 ≤ 6 := h2
    have h3' : payload.length + 1 + 1 = 2 + payloadLength w1 := h3
    exact ⟨_, receiveFrame_of_length crc (by omega) (by omega)⟩

theorem receiveFrame_words {r : Request} (h : r.payload.length ≤ 6) : receiveFrame r.words = .good r := by
  obtain ⟨hKind, hSeq, hEpoch⟩ := header_fields r.kind r.seq r.epoch
  refine (receiveFrame_of_length _ h (header2_length _ (by omega) ..)).trans ?_
  rw [if_pos rfl, hKind, hSeq, hEpoch]

/-! The CRC, bit by bit (R197) -/

theorem bytesOf_word (w : Word) :
    bytesOf 4 w.toNat = [w.extractLsb' 24 8, w.extractLsb' 16 8, w.extractLsb' 8 8, w.extractLsb' 0 8] := by
  have hByte : ∀ i, BitVec.ofNat 8 (w.toNat / 2 ^ i) = w.extractLsb' i 8 := fun i =>
    BitVec.eq_of_toNat_eq (by rw [extract_toNat, BitVec.toNat_ofNat])
  simp [bytesOf, ← hByte]

theorem frameCrc_eq (ws : List Word) : frameCrc ws = ~~~((wordBits ws).foldl crcBit 0xFFFFFFFF#32) := by
  have hBytes : ∀ (l : List Byte) (r : Word), l.foldl crcByte r = (l.flatMap fun b : Byte =>
      [b.getLsbD 7, b.getLsbD 6, b.getLsbD 5, b.getLsbD 4, b.getLsbD 3, b.getLsbD 2, b.getLsbD 1, b.getLsbD 0]).foldl crcBit r := fun l => by
    induction l with
    | nil => exact fun _ => rfl
    | cons b rest ih => exact fun r => by rw [List.foldl_cons, List.flatMap_cons, List.foldl_append, ih, crcByte_eq_bits]
  have hWords : wordBytes ws = ws.flatMap fun w => [w.extractLsb' 24 8, w.extractLsb' 16 8, w.extractLsb' 8 8, w.extractLsb' 0 8] :=
    congrArg (List.flatMap · ws) (funext bytesOf_word)
  rw [frameCrc, crc32, hBytes, hWords]
  rfl

/-! Frames sent (R196) -/

theorem word2_eq_wordOf (a b : Nat) {c : Nat} (hc : c < 65536) :
    word2 (a * 256 + b) c = wordOf (a * 2 ^ 24 + b * 2 ^ 16 + c) := by
  refine BitVec.eq_of_toNat_eq ?_
  rw [word2_toNat, wordOf, BitVec.toNat_ofNat]
  omega

theorem word4_eq_wordOf (a b c d : Byte) : word4 a b c d = wordOf (a.toNat * 2 ^ 24 + b.toNat * 2 ^ 16 + c.toNat * 2 ^ 8 + d.toNat) := rfl

theorem zeroByte_toNat : (0 : Byte).toNat = 0 := rfl

theorem replyContent_eq {r : Reply} (epoch : Epoch) (replay : Bool) (h : r.payload.length ≤ 29) :
    (OutFrame.reply r epoch replay).content = [wordOf (r.kind.toNat * 2 ^ 24 + r.seq.toNat * 2 ^ 16 + epoch.toNat),
      wordOf (r.payload.length * 2 ^ 24 + r.status.code.toNat * 2 ^ 16 + (if replay = true then 1 else 0) * 2 ^ 8)] ++ r.payload := by
  have hLength : (BitVec.ofNat 8 r.payload.length).toNat = r.payload.length := by
    rw [BitVec.toNat_ofNat]
    omega
  have hReplay : (BitVec.ofNat 8 (bitIf replay 0)).toNat = if replay = true then 1 else 0 := by cases replay <;> rfl
  rw [OutFrame.content, word2_eq_wordOf _ _ epoch.isLt, word4_eq_wordOf, hLength, hReplay]
  simp only [zeroByte_toNat, Nat.add_zero, List.cons_append, List.nil_append]

theorem noticeContent_eq (k : NoticeKind) (epoch : Epoch) (serial : Byte) (payload : Option Word) :
    (OutFrame.notice k epoch serial payload).content = [wordOf (0xE0 * 2 ^ 24 + k.code.toNat * 2 ^ 16 + epoch.toNat),
      wordOf (payload.toList.length * 2 ^ 24 + serial.toNat * 2 ^ 16)] ++ payload.toList := by
  have hLength : (BitVec.ofNat 8 payload.toList.length).toNat = payload.toList.length := by cases payload <;> rfl
  rw [OutFrame.content, word2_eq_wordOf _ _ epoch.isLt, word4_eq_wordOf, hLength]
  simp only [zeroByte_toNat, Nat.zero_mul, Nat.add_zero, List.cons_append, List.nil_append]

/-- Settles O5, by the fields of the two header words and the CRC's linearity. -/
theorem requestFramesReadBack : Obligations.RequestFramesReadBack := by
  unfold Obligations.RequestFramesReadBack
  refine ⟨fun r h => receiveFrame_words h, fun r epoch replay h => ?_, fun k epoch serial payload => ?_, frameCrc_eq, word2_toNat,
    word4_toNat, fun _ => rfl, fun _ => rfl, rfl, rfl, rfl⟩
  · dsimp only
    rw [← replyContent_eq epoch replay h]
    rfl
  · dsimp only
    rw [← noticeContent_eq]
    rfl

/-! Received frames -/

theorem exec_requestFrame (p : Port) {words : List Word} {s : State} (h : (s.link p).state = .up) :
    (receiveFrame words = .malformed → exec (.requestFrame p words) s = .next (s.capture { kind := .malformed, port := some p })) ∧
    (receiveFrame words = .badCrc → exec (.requestFrame p words) s = .next (s.capture { kind := .crc, port := some p })) ∧
    ∀ r, receiveFrame words = .good r → exec (.requestFrame p words) s = .next (s.admitFrame p r) := by
  simp only [exec, execRequestFrame, h]
  exact ⟨fun hr => by rw [hr], fun hr => by rw [hr], fun r hr => by rw [hr]⟩

/-- Settles O23, by the two tests of R103. -/
theorem badFramesAreDiscarded : Obligations.BadFramesAreDiscarded := by
  unfold Obligations.BadFramesAreDiscarded
  refine ⟨fun p words s h => ?_, fun p words s hs h => ?_, fun p content crc s hs h1 h2 h3 h4 => ?_⟩
  · simp only [exec, execRequestFrame]
    cases hs : (s.link p).state with
    | up => exact absurd hs h
    | down | training => rfl
  · exact (exec_requestFrame p hs).1 (receiveFrame_malformed h)
  · obtain ⟨r, hr⟩ := receiveFrame_content crc h1 h2 h3
    exact (exec_requestFrame p hs).2.1 (hr.trans (if_neg h4))

theorem restartLapse_eq (s : State) (p : Port) (r : Request) : s.restartLapse p r =
    if s.isOpen p = true ∧ r.epoch = (s.session p).epoch ∧ r.kind ≠ 0x01#8
    then s.setSession p { s.session p with lapseTimer := some (s.settings.lapsePeriod p) } else s := by
  unfold State.restartLapse
  refine ite_congr (propext ?_) (fun _ => rfl) (fun _ => rfl)
  rw [Bool.and_eq_true_iff, epochLive_iff, decide_eq_true_iff, and_assoc]
  rfl

theorem admitFrame_cases {s u : State} {p : Port} {r : Request} (hu : s.restartLapse p r = u) (hLink : u.link p = s.link p) :
    (∀ c, ((s.link p).cache.find? fun c => c.seq = r.seq) = some c → s.admitFrame p r = u.enqueue p (.reply c (u.session p).epoch true)) ∧
    (r.seq ∉ (s.link p).cached → (r.seq ∈ (s.link p).queued → s.admitFrame p r = u) ∧
      (r.seq ∉ (s.link p).queued → (8 ≤ (s.link p).requests.length → s.admitFrame p r = u.capture { kind := .overrun, port := some p }) ∧
        ((s.link p).requests.length < 8 →
          s.admitFrame p r = u.setLink p { s.link p with requests := (s.link p).requests ++ [r] }))) := by
  unfold State.admitFrame
  rw [hu]
  dsimp only
  rw [hLink]
  refine ⟨fun c hc => by rw [hc], fun hCached => ?_⟩
  have hNone : ((s.link p).cache.find? fun c => c.seq = r.seq) = none := by
    simpa [Link.cached] using hCached
  rw [hNone]
  dsimp only
  refine ⟨fun hQueued => if_pos ?_, fun hQueued => ?_⟩
  · simpa [Link.queued] using hQueued
  · have hNot : ¬((s.link p).requests.any fun q => q.seq = r.seq) = true := by
      simpa [Link.queued] using hQueued
    rw [if_neg hNot]
    exact ⟨fun h => if_pos h, fun h => if_neg (Nat.not_le.2 h)⟩

/-- But for the lapse timer, the admission of a frame touches no session. -/
theorem admitFrame_sessions {s : State} {p : Port} {r : Request} (h : s.restartLapse p r = s) : (s.admitFrame p r).sessions = s.sessions := by
  unfold State.admitFrame
  rw [h]
  dsimp only
  split
  · simp
  · split
    · rfl
    · split
      · simp
      · rfl

theorem enqueue_eq (s : State) (p : Port) (f : OutFrame) : s.enqueue p f =
    if (s.link p).state = .up ∧ (s.link p).outbound.length < 16 then
      s.setLink p { s.link p with outbound := (s.link p).outbound ++ [f] } else s := by
  unfold State.enqueue State.accepts
  refine ite_congr (propext ?_) (fun _ => rfl) (fun _ => rfl)
  rw [Bool.and_eq_true_iff, decide_eq_true_iff, decide_eq_true_iff]
  exact Iff.rfl

/-- Settles O24, by what is known of the frame's number. -/
theorem goodFramesAreAdmitted : Obligations.GoodFramesAreAdmitted := by
  unfold Obligations.GoodFramesAreAdmitted
  intro p words r s hUp hGood
  have hExec : exec (.requestFrame p words) s = .next (s.admitFrame p r) := (exec_requestFrame p hUp).2.2 r hGood
  dsimp only
  rw [← restartLapse_eq, hExec]
  generalize hu : s.restartLapse p r = u
  have hLink : u.link p = s.link p := by rw [← hu, link_eq, restartLapse_links]; rfl
  have hEpoch : (u.session p).epoch = (s.session p).epoch := by
    rw [← hu, restartLapse_eq]
    split
    · simp
    · rfl
  obtain ⟨hReplay, hNew⟩ := admitFrame_cases hu hLink
  refine ⟨fun c hc => ?_, fun h1 h2 => by rw [(hNew h1).1 h2], fun h1 h2 h3 => by rw [((hNew h1).2 h2).1 h3],
    fun h1 h2 h3 => by rw [((hNew h1).2 h2).2 h3], fun hKind => ⟨_, rfl, ?_⟩⟩
  · rw [hReplay c hc, enqueue_eq, hLink, hEpoch]
    exact congrArg _ (ite_congr (propext (and_iff_right hUp)) (fun _ => rfl) (fun _ => rfl))
  · have hSame : u = s := by rw [← hu, restartLapse_eq, if_neg fun h => h.2.2 hKind]
    exact admitFrame_sessions (hu.trans hSame)

end Sys2Proof.Machine
end

section
/-! PROOFS. The statements about link events, replies and notices. -/

-- The proofs are checked one after the other: run at once, their threads would exceed the memory bound of the check.
set_option Elab.async false

namespace Sys2Proof.Machine

/-! Link events -/

/-- Settles O22, by the link's state. -/
theorem linkEventsMoveTheLink : Obligations.LinkEventsMoveTheLink := by
  unfold Obligations.LinkEventsMoveTheLink
  intro p s
  simp only [exec, execSignalDetect, execTrainingCompletes, execTrainingLimitExpiry, execLossOfLock, execFrameTransmit]
  cases hs : (s.link p).state with
  | down => exact ⟨rfl, rfl, rfl, rfl, nofun, fun _ => rfl⟩
  | training => exact ⟨rfl, rfl, rfl, rfl, nofun, fun _ => rfl⟩
  | up =>
    refine ⟨rfl, rfl, rfl, rfl, fun f rest _ ho => ?_, fun ho => ?_⟩
    · rw [ho]
    · rw [ho.resolve_left fun h => h rfl]

/-! What the notice unit sends (R141 to R143, R147, R148) -/

/-- The notice unit reaches a port whose session is open, whose link is UP and whose outbound queue has room. -/
def State.reaches (s : State) (p : Port) : Prop :=
  s.isOpen p = true ∧ (s.link p).state = .up ∧ (s.link p).outbound.length < 16

theorem accepts_iff {s : State} {p : Port} : s.accepts p = true ↔ (s.link p).state = .up ∧ (s.link p).outbound.length < 16 := by
  unfold State.accepts
  rw [Bool.and_eq_true_iff, decide_eq_true_iff, decide_eq_true_iff]
  rfl

theorem sendNotice_of_reached {s : State} {p : Port} (h : s.reaches p) (k : NoticeKind) (w : Option Word) :
    s.sendNotice p k w = { s with
      links := s.links.set p { s.link p with
        outbound := (s.link p).outbound ++ [.notice k (s.session p).epoch (s.notices.serials.get p) w] }
      notices := { s.notices with serials := s.notices.serials.set p (s.notices.serials.get p + 1#8) } } := by
  unfold State.sendNotice
  rw [if_pos (Bool.and_eq_true_iff.2 ⟨h.1, accepts_iff.2 h.2⟩)]
  show (s.enqueue p _).setNotices _ = _
  rw [enqueue_eq, if_pos h.2]
  rfl

theorem sendNotice_of_not_reached {s : State} {p : Port} (h : ¬s.reaches p) (k : NoticeKind) (w : Option Word) : s.sendNotice p k w = s :=
  if_neg fun hc => h ⟨(Bool.and_eq_true_iff.1 hc).1, accepts_iff.1 (Bool.and_eq_true_iff.1 hc).2⟩

/-- A frame touches its own port's queue and serial alone. -/
theorem sendNotice_other (s : State) (p : Port) (k : NoticeKind) (w : Option Word) :
    (s.sendNotice p k w).notices.flags = s.notices.flags ∧ (s.sendNotice p k w).link p.other = s.link p.other ∧
    (s.sendNotice p k w).notices.serials.get p.other = s.notices.serials.get p.other ∧
    s.sendNotice p k w = { s with
      links := (s.sendNotice p k w).links
      notices := { s.notices with serials := (s.sendNotice p k w).notices.serials } } := by
  by_cases h : s.reaches p
  · rw [sendNotice_of_reached h]
    exact ⟨rfl, PerPort.get_set_other .., PerPort.get_set_other .., rfl⟩
  · rw [sendNotice_of_not_reached h]
    exact ⟨rfl, rfl, rfl, rfl⟩

/-! What a raise does as it is taken -/

/-- The flag of a repeating kind set. -/
def State.flagged (s : State) (p : Port) (k : NoticeKind) (w : Option Word) : State :=
  if k.repeating then s.setFlag p k (some w) else s

/-- A raise of a kind whose flag is not set. -/
theorem takeRaise_of_clear {s : State} {p : Port} {k : NoticeKind} (h : ((s.notices.flags.get p).get k).isSome = false) (w : Option Word) :
    s.takeRaise ⟨p, k, w⟩ = (s.flagged p k w).sendNotice p k w := by
  unfold State.takeRaise State.flagged
  cases hk : k.repeating with
  | false => rfl
  | true =>
    have hNone : (s.notices.flags.get p).get k = none := Option.not_isSome_iff_eq_none.1 (by rw [h]; nofun)
    simp only [if_true, hNone]

theorem takeRaise_of_set {s : State} {p : Port} {k : NoticeKind} (h : ((s.notices.flags.get p).get k).isSome = true) (w : Option Word) :
    s.takeRaise ⟨p, k, w⟩ = s := by
  obtain ⟨v, hv⟩ := Option.isSome_iff_exists.1 h
  have hk : k.repeating = true := by
    revert hv
    cases k <;> simp [PendingFlags.get, NoticeKind.repeating]
  unfold State.takeRaise
  simp only [hk, if_true, hv]

theorem PendingFlags.get_put_other (f : PendingFlags) {k k' : NoticeKind} (h : k' ≠ k) (v : Option (Option Word)) :
    (f.put k v).get k' = f.get k' := by
  revert h
  cases k <;> cases k' <;> simp [PendingFlags.put, PendingFlags.get]

theorem PendingFlags.get_put_same (f : PendingFlags) {k : NoticeKind} (h : k.repeating = true) (v : Option (Option Word)) :
    (f.put k v).get k = v := by
  revert h
  cases k <;> simp [PendingFlags.put, PendingFlags.get, NoticeKind.repeating]

theorem flagged_parts (s : State) (p : Port) (k : NoticeKind) (w : Option Word) :
    (k.repeating = true → ((s.flagged p k w).notices.flags.get p).get k = some w) ∧
    (k.repeating = false → s.flagged p k w = s) ∧
    (∀ k', k' ≠ k → ((s.flagged p k w).notices.flags.get p).get k' = (s.notices.flags.get p).get k') ∧
    (s.flagged p k w).notices.flags.get p.other = s.notices.flags.get p.other ∧
    s.flagged p k w = { s with notices := { s.notices with flags := (s.flagged p k w).notices.flags } } := by
  unfold State.flagged
  cases hk : k.repeating with
  | false => exact ⟨nofun, fun _ => rfl, fun _ _ => rfl, rfl, rfl⟩
  | true =>
    rw [if_pos rfl]
    have hHere : (s.setFlag p k (some w)).notices.flags.get p = (s.notices.flags.get p).put k (some w) := PerPort.get_set_same ..
    refine ⟨fun _ => ?_, nofun, fun k' hk' => ?_, PerPort.get_set_other .., rfl⟩
    · rw [hHere, PendingFlags.get_put_same _ hk]
    · rw [hHere, PendingFlags.get_put_other _ hk']

/-- What a raise leaves as it is taken: one frame if the port is reached, the flag of a repeating kind, and nothing else. -/
theorem takeRaise_parts {s : State} {p : Port} {k : NoticeKind} (h : ((s.notices.flags.get p).get k).isSome = false) (w : Option Word) :
    (s.takeRaise ⟨p, k, w⟩).notices.flags = (s.flagged p k w).notices.flags ∧
    (s.reaches p → (s.takeRaise ⟨p, k, w⟩).links = s.links.set p { s.link p with
        outbound := (s.link p).outbound ++ [.notice k (s.session p).epoch (s.notices.serials.get p) w] } ∧
      (s.takeRaise ⟨p, k, w⟩).notices.serials = s.notices.serials.set p (s.notices.serials.get p + 1#8)) ∧
    (¬s.reaches p → (s.takeRaise ⟨p, k, w⟩).links = s.links ∧ (s.takeRaise ⟨p, k, w⟩).notices.serials = s.notices.serials) := by
  obtain ⟨-, -, -, -, hFlagged⟩ := flagged_parts s p k w
  rw [takeRaise_of_clear h]
  refine ⟨(sendNotice_other ..).1, fun hr => ?_, fun hr => ?_⟩
  · have hr' : (s.flagged p k w).reaches p := by
      rw [hFlagged]
      exact hr
    rw [sendNotice_of_reached hr', hFlagged]
    exact ⟨rfl, rfl⟩
  · have hr' : ¬(s.flagged p k w).reaches p := by
      rw [hFlagged]
      exact hr
    rw [sendNotice_of_not_reached hr', hFlagged]
    exact ⟨rfl, rfl⟩

/-- Whatever is raised, the links, the flags and the serials alone change, and those of the named port alone. -/
theorem takeRaise_other (s : State) (p : Port) (k : NoticeKind) (w : Option Word) :
    (∀ k', k' ≠ k → ((s.takeRaise ⟨p, k, w⟩).notices.flags.get p).get k' = (s.notices.flags.get p).get k') ∧
    (s.takeRaise ⟨p, k, w⟩).notices.flags.get p.other = s.notices.flags.get p.other ∧
    (s.takeRaise ⟨p, k, w⟩).link p.other = s.link p.other ∧
    (s.takeRaise ⟨p, k, w⟩).notices.serials.get p.other = s.notices.serials.get p.other ∧
    s.takeRaise ⟨p, k, w⟩ = { s with
      links := (s.takeRaise ⟨p, k, w⟩).links
      notices := { s.notices with
        flags := (s.takeRaise ⟨p, k, w⟩).notices.flags, serials := (s.takeRaise ⟨p, k, w⟩).notices.serials } } := by
  cases h : ((s.notices.flags.get p).get k).isSome with
  | true =>
    rw [takeRaise_of_set h]
    exact ⟨fun _ _ => rfl, rfl, rfl, rfl, rfl⟩
  | false =>
    obtain ⟨-, -, hKinds, hPeer, hFlagged⟩ := flagged_parts s p k w
    obtain ⟨hFlags, hLink, hSerial, hSent⟩ := sendNotice_other (s.flagged p k w) p k w
    rw [takeRaise_of_clear h, hFlags]
    refine ⟨hKinds, hPeer, hLink.trans ?_, hSerial.trans ?_, ?_⟩
    · rw [hFlagged]
      rfl
    · rw [hFlagged]
    · rw [hSent, hFlagged]

theorem raise_of_none {s : State} (h : s.notices.held = none) (p : Port) (k : NoticeKind) (w : Option Word) :
    s.raise p k w = s.takeRaise ⟨p, k, w⟩ := by
  unfold State.raise
  rw [h]

theorem raise_of_held {s : State} {l : List Raise} (h : s.notices.held = some l) (p : Port) (k : NoticeKind) (w : Option Word) :
    s.raise p k w = if k.repeating = true ∨ s.isOpen p = true then
      { s with notices := { s.notices with held := some (l ++ [⟨p, k, w⟩]) } } else s := by
  unfold State.raise
  rw [h]
  exact ite_congr (propext Bool.or_eq_true_iff) (fun _ => rfl) (fun _ => rfl)

theorem judgeRepeat_cases (s : State) :
    (s.repeatCondition = true → s.notices.repeatTimer = none →
      s.judgeRepeat = { s with notices := { s.notices with repeatTimer := some (s.settings.noticeRepeat * 10) } }) ∧
    (s.repeatCondition = true → s.notices.repeatTimer ≠ none → s.judgeRepeat = s) ∧
    (s.repeatCondition = false → s.judgeRepeat = { s with notices := { s.notices with repeatTimer := none } }) := by
  unfold State.judgeRepeat
  refine ⟨fun hc ht => ?_, fun hc ht => ?_, fun hc => ?_⟩
  · rw [if_pos hc, ht]
    rfl
  · obtain ⟨n, hn⟩ := Option.ne_none_iff_exists'.1 ht
    rw [if_pos hc, hn]
  · rw [hc]
    rfl

/-- Settles O27, by whether the flag is set and whether the port is reached. -/
theorem raisesSendAndSetFlags : Obligations.RaisesSendAndSetFlags := by
  unfold Obligations.RaisesSendAndSetFlags
  intro s p k w
  obtain ⟨hSet, hOnce, -⟩ := flagged_parts s p k w
  obtain ⟨hKinds, hPeer, hLink, hSerial, hFrame⟩ := takeRaise_other s p k w
  obtain ⟨hStart, hRuns, hStops⟩ := judgeRepeat_cases s
  dsimp only
  refine ⟨by cases k <;> simp [NoticeKind.repeating], fun _ hBefore => takeRaise_of_set hBefore w, fun hk hBefore => ?_, fun hk => ?_,
    fun hBefore hOpen hUp hRoom => ?_, fun hBefore hNot => (takeRaise_parts hBefore w).2.2 hNot, hKinds, hPeer, hLink, hSerial, hFrame,
    fun hHeld => raise_of_none hHeld p k w, fun l hHeld hTold => ?_, fun l hHeld hk hOpen => ?_, rfl, ⟨fun hf => ?_, fun hf => ?_, fun hf => ?_⟩, rfl⟩
  · rw [(takeRaise_parts hBefore w).1, hSet hk]
  · have hBefore : ((s.notices.flags.get p).get k).isSome = false := by
      revert hk
      cases k <;> simp [NoticeKind.repeating, PendingFlags.get]
    rw [(takeRaise_parts hBefore w).1, hOnce hk]
  · obtain ⟨hLinks, hSerials⟩ := (takeRaise_parts hBefore w).2.1 ⟨hOpen, hUp, hRoom⟩
    rw [link_eq, hLinks, hSerials, PerPort.get_set_same, PerPort.get_set_same]
    exact ⟨rfl, rfl⟩
  · rw [raise_of_held hHeld, if_pos hTold]
  · rw [raise_of_held hHeld, if_neg fun h => h.elim (by rw [hk]; nofun) (by rw [hOpen]; nofun)]
  · exact hStart ((repeatCondition_iff s).2 hf)
  · exact hRuns ((repeatCondition_iff s).2 hf)
  · exact hStops (Bool.eq_false_iff.2 fun h => hf ((repeatCondition_iff s).1 h))

/-! The end of a granted request (R107, R111, R112, R117 to R119) -/

theorem cached_iff (x : ReplyStatus) : x.cached = true ↔ x ∉ [.notReady, .fenced, .notAttached, .staleEpoch] := by
  cases x <;> simp [ReplyStatus.cached]

/-- A port's link with the reply cached, the request taken off and the reply queued. -/
def State.replied (s : State) (p : Port) (r : Request) (a : Answer) : Link :=
  { s.link p with
    cache := if a.status ∈ [.notReady, .fenced, .notAttached, .staleEpoch] then (s.link p).cache
      else (if 8 ≤ (s.link p).cache.length then (s.link p).cache.tail else (s.link p).cache) ++
        [{ kind := replyKind r.kind, seq := r.seq, status := a.status, payload := a.payload }]
    requests := (s.link p).requests.tail
    outbound := (s.link p).outbound ++ if (s.link p).state = .up ∧ (s.link p).outbound.length < 16
      then [.reply { kind := replyKind r.kind, seq := r.seq, status := a.status, payload := a.payload } (s.session p).epoch false] else [] }

/-- A state with a reply queued, from which the raises that waited for it are taken. -/
def State.replying (s : State) (p : Port) (r : Request) (a : Answer) : State :=
  { s with links := s.links.set p (s.replied p r a), notices := { s.notices with held := none } }

theorem cachedReply_eq (status : ReplyStatus) (c : List Reply) (reply : Reply) : (if status.cached then cachePush c reply else c) =
    if status ∈ [.notReady, .fenced, .notAttached, .staleEpoch] then c
      else (if 8 ≤ c.length then c.tail else c) ++ [reply] := by
  by_cases h : status ∈ [.notReady, .fenced, .notAttached, .staleEpoch]
  · rw [if_pos h, if_neg fun hc => (cached_iff status).1 hc h]
  · rw [if_neg h, if_pos ((cached_iff status).2 h)]
    rfl

/-- A frame queued on a link just written joins that link's queue. -/
theorem enqueue_setLink (s : State) (p : Port) (l : Link) (f : OutFrame) : (s.setLink p l).enqueue p f =
    s.setLink p { l with outbound := l.outbound ++ if l.state = .up ∧ l.outbound.length < 16 then [f] else [] } := by
  have hl : (s.setLink p l).link p = l := PerPort.get_set_same ..
  rw [enqueue_eq, hl]
  by_cases h : l.state = .up ∧ l.outbound.length < 16
  · rw [if_pos h, if_pos h]
    exact congrArg (fun x => ({ s with links := x } : State)) (PerPort.set_set ..)
  · rw [if_neg h, if_neg h, List.append_nil]

theorem deliverReply_eq (s : State) (p : Port) (r : Request) (a : Answer) : s.deliverReply p r a = s.setLink p (s.replied p r a) := by
  unfold State.deliverReply
  extract_lets reply l s1
  have hs1 : s1 = s.setLink p { l with
      cache := if a.status ∈ [.notReady, .fenced, .notAttached, .staleEpoch] then l.cache
        else (if 8 ≤ l.cache.length then l.cache.tail else l.cache) ++ [reply]
      requests := l.requests.tail } :=
    congrArg (fun c => s.setLink p { l with cache := c, requests := l.requests.tail }) (cachedReply_eq ..)
  rw [hs1, enqueue_setLink]
  rfl

/-- The raises taken in turn queue notices behind what a port's queue holds. -/
theorem takeAll_outbound (l : List Raise) (s : State) (q : Port) : ∃ notices : List OutFrame,
    (∀ f ∈ notices, ∃ k e n w, f = .notice k e n w) ∧ (l = [] → notices = []) ∧
    ((l.foldl State.takeRaise s).link q).outbound = (s.link q).outbound ++ notices := by
  induction l generalizing s with
  | nil => exact ⟨[], nofun, fun _ => rfl, (List.append_nil _).symm⟩
  | cons x rest ih =>
    obtain ⟨p, k, w⟩ := x
    obtain ⟨later, hLater, -, hOut⟩ := ih (s.takeRaise ⟨p, k, w⟩)
    have hHere : ∃ first : List OutFrame, (∀ f ∈ first, ∃ k e n w, f = .notice k e n w) ∧
        ((s.takeRaise ⟨p, k, w⟩).link q).outbound = (s.link q).outbound ++ first := by
      rcases Port.eq_or_other p q with rfl | rfl
      · cases h : ((s.notices.flags.get q).get k).isSome with
        | true => exact ⟨[], fun _ hf => absurd hf List.not_mem_nil, by rw [takeRaise_of_set h, List.append_nil]⟩
        | false =>
          by_cases hr : s.reaches q
          · refine ⟨[.notice k (s.session q).epoch (s.notices.serials.get q) w], fun f hf => ⟨_, _, _, _, List.mem_singleton.1 hf⟩, ?_⟩
            rw [link_eq, ((takeRaise_parts h w).2.1 hr).1, PerPort.get_set_same]
          · exact ⟨[], nofun, by rw [link_eq, ((takeRaise_parts h w).2.2 hr).1, List.append_nil, link_eq]⟩
      · exact ⟨[], nofun, by rw [(takeRaise_other s p k w).2.2.1, List.append_nil]⟩
    obtain ⟨first, hFirst, hFirstOut⟩ := hHere
    refine ⟨first ++ later, fun f hf => (List.mem_append.1 hf).elim (hFirst f) (hLater f), nofun, ?_⟩
    rw [List.foldl_cons, hOut, hFirstOut, List.append_assoc]

/-- Settles O26, by the reply's link and the raises taken in turn. -/
theorem answeredDeliversOneReply : Obligations.AnsweredDeliversOneReply := by
  unfold Obligations.AnsweredDeliversOneReply
  intro u p r a
  have hAnswered : u.answered p r a = ((u.notices.held.getD []).foldl State.takeRaise (u.replying p r a)).judgeRepeat := by
    rw [State.answered, deliverReply_eq]
    rfl
  have hLink : ∀ q, (u.answered p r a).link q = ((u.notices.held.getD []).foldl State.takeRaise (u.replying p r a)).link q := fun q => by
    rw [hAnswered, link_eq, (judgeRepeat_frame _).1]
    rfl
  obtain ⟨notices, hNotices, hNone, hOut⟩ := takeAll_outbound (u.notices.held.getD [])
    (u.replying p r a) p
  have hPorts : ∀ q, ((u.answered p r a).link q).state = ((u.links.set p (u.replied p r a)).get q).state ∧
      ((u.answered p r a).link q).requests = ((u.links.set p (u.replied p r a)).get q).requests ∧
      ((u.answered p r a).link q).cache = ((u.links.set p (u.replied p r a)).get q).cache := fun q => by
    obtain ⟨hState, -, hRequests, hCache, -⟩ := takeAll_ports
      (u.replying p r a) (u.notices.held.getD []) q
    rw [hLink]
    exact ⟨hState, hRequests, hCache⟩
  obtain ⟨hState, hRequests, hCache⟩ := hPorts p
  obtain ⟨hState', hRequests', hCache'⟩ := hPorts p.other
  rw [PerPort.get_set_same] at hState hRequests hCache
  rw [PerPort.get_set_other _] at hState' hRequests' hCache'
  obtain ⟨hSessions, hArbiter, hJournal, hEngine, hSweeper, hIntegrity, -, hHeld, hService, hFaults, hReset, hFree, hPending⟩ :=
    takeAll_frame (u.replying p r a) (u.notices.held.getD [])
  have hJudged := judgeRepeat_frame ((u.notices.held.getD []).foldl State.takeRaise (u.replying p r a))
  rw [← hAnswered] at hJudged
  obtain ⟨jLinks, jSessions, jArbiter, jJournal, jEngine, jSweeper, jIntegrity, jFlags, jSerials, jHeld, jService, jFaults, jReset, jFree,
    jPending⟩ := hJudged
  dsimp only
  refine ⟨hRequests, hCache, ⟨notices, hNotices, hNone, ?_⟩, fun hNil => ?_, hState, hRequests', hCache', jHeld.trans hHeld,
    jSessions.trans hSessions, jArbiter.trans hArbiter, jJournal.trans hJournal, jEngine.trans hEngine, jSweeper.trans hSweeper,
    jIntegrity.trans hIntegrity, jService.trans hService, jFaults.trans hFaults, jReset.trans hReset, jFree.trans hFree,
    jPending.trans hPending, hAnswered⟩
  · rw [hLink, hOut]
    exact congrArg (fun l : Link => l.outbound ++ notices) (PerPort.get_set_same u.links p (u.replied p r a))
  · rw [hLink, jFlags, jSerials, hNil]
    exact ⟨PerPort.get_set_other u.links p (u.replied p r a), rfl, rfl⟩

end Sys2Proof.Machine
end

section
/-! PROOFS. The requests that read no slot: the checks at a grant, and what each request then leaves (chapters 4, 5 and 11). -/

-- The proofs are checked one after the other: run at once, their threads would exceed the memory bound of the check.
set_option Elab.async false

namespace Sys2Proof.Machine

/-! The checks at a request's grant (R133, R134) -/

/-- A request that a check refuses is answered, and nothing else happens. -/
theorem exec_of_refused {s : State} {p : Port} {r : Request} {k : PeerRequest} {refusal : ReplyStatus} (h : Granted s p r k)
    (hk : k.unchecked = false) (hCheck : s.sessionCheck p r.epoch = some refusal) (w : SlotWear) (ws : List SlotWear) :
    exec (commandFor p w ws k) s = .next ((s.grantStart p).answered p r { status := refusal }) := by
  rw [exec_commandFor h, State.serving, hk, if_neg (by nofun), serveChecked_of_refused hCheck]

/-- A request that the checks do not judge runs from the start of its grant. -/
theorem exec_of_unchecked {s : State} {p : Port} {r : Request} {k : PeerRequest} (h : Granted s p r k) (hk : k.unchecked = true)
    (w : SlotWear) (ws : List SlotWear) : exec (commandFor p w ws k) s =
      .next ((k.run p w ws (s.grantStart p)).2.answered p r (k.run p w ws (s.grantStart p)).1) := by
  rw [exec_commandFor h, State.serving, if_pos hk, serve_eq]

theorem grantStart_engine (s : State) (p : Port) : (s.grantStart p).engine.state = s.engine.state := by simp

theorem grantStart_session (s : State) (p q : Port) : (s.grantStart p).session q = s.session q := by simp

theorem grantStart_isOpen (s : State) (p q : Port) : (s.grantStart p).isOpen q = s.isOpen q := by simp

theorem runAttach_of_initializing {s : State} (h : s.engine.state = .initializing) (p : Port) (i : Word) :
    s.runAttach p i = ({ status := .notReady }, s) := by
  unfold State.runAttach
  rw [if_pos h]

theorem runAttach_of_fenced {s : State} {p : Port} (h : s.engine.state ≠ .initializing) (hf : (s.session p).state = .fenced) (i : Word) :
    s.runAttach p i = ({ status := .fenced }, s) := by
  unfold State.runAttach
  rw [if_neg h, if_pos hf]

theorem grantStart_settings (s : State) (p : Port) : (s.grantStart p).settings = s.settings := by simp

/-- The request that is not malformed and not judged by the checks is ATTACH. -/
theorem attach_of_unchecked {k : PeerRequest} (h : k.unchecked = true) (hBad : k ≠ .bad) : ∃ i, k = .attach i := by
  cases k with
  | bad => exact absurd rfl hBad
  | attach i => exact ⟨i, rfl⟩
  | _ => cases h

theorem unchecked_of_ne {k : PeerRequest} (hBad : k ≠ .bad) (hAttach : ∀ i, k ≠ .attach i) : k.unchecked = false :=
  Bool.eq_false_iff.2 fun h => by
    obtain ⟨i, rfl⟩ := attach_of_unchecked h hBad
    exact hAttach i rfl

/-- A refusal that both ATTACH's own rule and the checks make. -/
theorem exec_of_refused_by_both {s : State} {p : Port} {r : Request} {k : PeerRequest} {refusal : ReplyStatus} (h : Granted s p r k)
    (hBad : k ≠ .bad) (hCheck : s.sessionCheck p r.epoch = some refusal)
    (hAttach : ∀ i, (s.grantStart p).runAttach p i = ({ status := refusal }, s.grantStart p)) (w : SlotWear) (ws : List SlotWear) :
    exec (commandFor p w ws k) s = .next ((s.grantStart p).answered p r { status := refusal }) := by
  cases hk : k.unchecked with
  | false => exact exec_of_refused h hk hCheck w ws
  | true =>
    obtain ⟨i, rfl⟩ := attach_of_unchecked hk hBad
    rw [exec_of_unchecked h hk, PeerRequest.run, hAttach]

theorem sessionCheck_of_initializing {s : State} (h : s.engine.state = .initializing) (p : Port) (e : Epoch) :
    s.sessionCheck p e = some .notReady := by
  unfold State.sessionCheck
  rw [if_pos h]

theorem sessionCheck_of_fenced {s : State} {p : Port} (h : s.engine.state ≠ .initializing) (hs : (s.session p).state = .fenced) (e : Epoch) :
    s.sessionCheck p e = some .fenced := by
  unfold State.sessionCheck
  rw [if_neg h, hs]

theorem sessionCheck_of_away {s : State} {p : Port} (h : s.engine.state ≠ .initializing)
    (hs : (s.session p).state = .detached ∨ (s.session p).state = .lapsed) (e : Epoch) : s.sessionCheck p e = some .notAttached := by
  unfold State.sessionCheck
  rw [if_neg h]
  rcases hs with hs | hs
  · rw [hs]
  · rw [hs]

theorem sessionCheck_of_stale {s : State} {p : Port} {e : Epoch} (h : s.engine.state ≠ .initializing) (hs : s.isOpen p = true)
    (he : e ≠ (s.session p).epoch) : s.sessionCheck p e = some .staleEpoch := by
  unfold State.sessionCheck
  rw [if_neg h]
  have hState : (s.session p).state.isOpen = true := hs
  cases hx : (s.session p).state with
  | attached | draining => exact if_neg he
  | detached | lapsed | fenced => rw [hx] at hState; cases hState

theorem classify_eq_iff_of_short {r : Request} {x : PeerRequest} (h : x ≠ .bad) (hs : x.short) :
    r.classify = x ↔ r.kind = x.code ∧ r.payload = x.words :=
  (classify_eq_iff h).trans (and_congr_right fun _ => and_iff_left hs)

/-- Settles O29, by the table of classifications and the checks in their order. -/
theorem grantChecksRefuseInOrder : Obligations.GrantChecksRefuseInOrder := by
  unfold Obligations.GrantChecksRefuseInOrder
  refine ⟨fun r => ⟨fun i => classify_eq_iff_of_short nofun trivial, classify_eq_iff_of_short nofun trivial,
    classify_eq_iff_of_short nofun trivial, classify_eq_iff_of_short nofun trivial, fun k note => ?_,
    fun k => classify_eq_iff_of_short nofun trivial, fun k => classify_eq_iff_of_short nofun trivial,
    classify_eq_iff_of_short nofun trivial, fun k => classify_eq_iff_of_short nofun trivial, classify_eq_iff_of_short nofun trivial,
    classify_eq_iff_of_short nofun trivial, fun k => classify_eq_iff_of_short nofun trivial, classify_eq_iff_of_short nofun trivial⟩,
    fun p r k w ws s h => ?_⟩
  · exact (classify_eq_iff (by nofun)).trans (and_assoc.symm.trans and_comm)
  refine ⟨fun hBad => ?_, fun hBad hi => ?_, fun hBad hi hf => ?_, fun hBad hAttach hi hs => ?_, fun hBad hAttach hi hs he => ?_⟩
  · subst hBad
    rw [exec_of_unchecked h rfl]
    rfl
  · exact exec_of_refused_by_both h hBad (sessionCheck_of_initializing hi p _)
      (runAttach_of_initializing ((grantStart_engine s p).trans hi) p) w ws
  · exact exec_of_refused_by_both h hBad (sessionCheck_of_fenced hi hf _)
      (runAttach_of_fenced (by rwa [grantStart_engine]) (by rwa [grantStart_session])) w ws
  · exact exec_of_refused h (unchecked_of_ne hBad hAttach) (sessionCheck_of_away hi hs _) w ws
  · exact exec_of_refused h (unchecked_of_ne hBad hAttach) (sessionCheck_of_stale hi hs he) w ws

/-! DETACH, PULSE and STATUS (R62, R65, R72, R73) -/

/-- Settles O32, by the port's session state. -/
theorem detachEndsOrDrains : Obligations.DetachEndsOrDrains := by
  unfold Obligations.DetachEndsOrDrains
  intro p r s
  have hSession := grantStart_session s p p
  refine ⟨fun h => ?_, fun h => ?_⟩
  · have hExec := exec_of_executes h rfl {} []
    have hRun : PeerRequest.run p {} [] .detachGraceful (s.grantStart p) = (s.grantStart p).runDetachGraceful p := rfl
    refine ⟨fun ha hh hd => ?_, fun ha hc => ?_, fun hd => ?_⟩
    · rw [hRun, State.runDetachGraceful, hSession, if_pos ha, if_pos ⟨hh, hd⟩, State.detachGracefully, hSession] at hExec
      exact hExec
    · rw [hRun, State.runDetachGraceful, hSession, if_pos ha, if_neg hc] at hExec
      exact hExec.trans (by rw [grantStart_settings])
    · rw [hRun, State.runDetachGraceful, hSession, if_neg (by rw [hd]; nofun)] at hExec
      exact hExec
  · have hOpen : (s.grantStart p).isOpen p = true := (grantStart_isOpen s p p).trans h.2.2.1
    refine (exec_of_executes h rfl {} []).trans ?_
    show Host.Outcome.next ((((s.grantStart p).endSession p .detached).raise p.other .peerDetached _).answered p r _) = _
    have hEnd : (s.grantStart p).endSession p .detached = (s.grantStart p).ending p .detached := by
      rw [State.ending, if_pos hOpen]
      rfl
    rw [hEnd, hSession]
    rfl

/-- A request whose own rule changes nothing is answered from the start of its grant. -/
theorem serveChecked_of_report {run : State → Answer × State} (h : ∀ t, (run t).2 = t) (s : State) (p : Port) (r : Request) :
    ∃ a, s.serveChecked p r run = (s.grantStart p).answered p r a := by
  cases hCheck : s.sessionCheck p r.epoch with
  | some refusal => exact ⟨_, serveChecked_of_refused hCheck run⟩
  | none =>
    refine ⟨(run (s.grantStart p)).1, ?_⟩
    have hCheck' : (s.grantStart p).sessionCheck p r.epoch = none := by
      rw [← hCheck, State.sessionCheck, State.sessionCheck, grantStart_engine, grantStart_session]
    rw [State.serveChecked, serve_eq]
    simp only [hCheck', h]

/-- PULSE and STATUS, in turn or out of it, change nothing beyond a grant and its answer. -/
theorem exec_report {p : Port} {c : Instr} (hc : c = .pulse p ∨ c = .status p) (s : State) :
    exec c s = .next s ∨ ∃ r a, exec c s = .next ((s.grantStart p).answered p r a) := by
  have hOf : isRequestOf p c := by rcases hc with rfl | rfl <;> exact rfl
  cases hr : s.grantedRequest p with
  | none => exact .inl (exec_request_of_none hOf hr)
  | some r =>
    have h : Granted s p r r.classify := ⟨hr, rfl⟩
    by_cases hIn : c = commandFor p {} [] r.classify
    · refine .inr ⟨r, ?_⟩
      have hExec := exec_commandFor h {} []
      rw [← hIn] at hExec
      have hKind : r.classify = .pulse ∨ r.classify = .status := by
        revert hIn
        rcases hc with rfl | rfl
        · cases r.classify <;> simp [commandFor]
        · cases r.classify <;> simp [commandFor]
      rcases hKind with hk | hk
      · rw [hk] at hExec
        obtain ⟨a, ha⟩ := serveChecked_of_report (run := State.runPulse p) (fun _ => rfl) s p r
        exact ⟨a, hExec.trans (congrArg Host.Outcome.next ha)⟩
      · rw [hk] at hExec
        obtain ⟨a, ha⟩ := serveChecked_of_report (run := State.runStatus p) (fun _ => rfl) s p r
        exact ⟨a, hExec.trans (congrArg Host.Outcome.next ha)⟩
    · refine .inl (exec_request_of_other hOf h fun w ws hw => hIn ?_)
      rw [hw]
      revert hw
      rcases hc with rfl | rfl
      · cases r.classify <;> simp [commandFor]
      · cases r.classify <;> simp [commandFor]

/-- Settles O33, by the report each makes and the delivery of its reply. -/
theorem pulseAndStatusOnlyReport : Obligations.PulseAndStatusOnlyReport := by
  unfold Obligations.PulseAndStatusOnlyReport
  intro p r s
  obtain ⟨hSessions, -, -, hOrphans, -, hGen, hComp, hEngine, hSweeper, hService, hFaults, hReset, hFree, -⟩ := grantStart_frame s p
  refine ⟨fun h => (exec_of_executes h rfl {} []).trans ?_, fun h => (exec_of_executes h rfl {} []).trans ?_, fun c t hc he hDue => ?_⟩
  · have hRun : PeerRequest.run p {} [] .pulse (s.grantStart p) = (s.grantStart p).runPulse p := rfl
    rw [hRun, State.runPulse, grantStart_session, (grantStart_quiet s p).2.1]
  · have hRun : PeerRequest.run p {} [] .status (s.grantStart p) = (s.grantStart p).runStatus p := rfl
    have hCount : (s.grantStart p).orphanCount = s.orphanCount := congrArg List.length hOrphans
    rw [hRun, State.runStatus, State.statusReply, grantStart_session, grantStart_session, (grantStart_quiet s p).2.1, hEngine, hComp,
      hSweeper, hGen, hCount]
  · rcases exec_report hc s with h | ⟨r, a, h⟩
    · obtain rfl : s = t := Host.Outcome.next.inj (h.symm.trans he)
      exact ⟨rfl, rfl, rfl, rfl, rfl, rfl, rfl, rfl, rfl, rfl, rfl, fun _ => rfl⟩
    · obtain rfl : _ = t := Host.Outcome.next.inj (h.symm.trans he)
      obtain ⟨-, -, -, hQuiet, -, -, -, -, tSessions, -, tJournal, tEngine, tSweeper, tIntegrity, tService, tFaults, tReset, tFree, -⟩ :=
        answeredDeliversOneReply (s.grantStart p) p r a
      have hStart := grantStart_of_not_due s p hDue
      obtain ⟨hLink, hFlags, hSerials⟩ := hQuiet (by rw [hStart]; rfl)
      have hJournal : (s.grantStart p).journal = s.journal := by rw [hStart]
      refine ⟨tSessions.trans hSessions, tJournal.trans hJournal, tEngine.trans (by rw [hStart]), tSweeper.trans hSweeper,
        tIntegrity.trans (by rw [hStart]), tService.trans hService, tFaults.trans hFaults, tReset.trans hReset,
        hLink.trans (by rw [hStart]; rfl), hFlags.trans (by rw [hStart]), hSerials.trans (by rw [hStart]), fun m => ?_⟩
      rw [State.stored, tJournal, hJournal, tFree, hFree]
      rfl

/-! CLEAR_MARK, ACK_NOTICE and FENCE_PEER (R61, R68, R145) -/

theorem PendingFlags.get_of_once (f : PendingFlags) {k : NoticeKind} (h : k.repeating = false) : f.get k = none := by
  revert h
  cases k <;> simp [PendingFlags.get, NoticeKind.repeating]

/-- Settles O34, by the one record that each writes. -/
theorem clearMarkAndAckNotice : Obligations.ClearMarkAndAckNotice := by
  unfold Obligations.ClearMarkAndAckNotice
  intro p r s
  refine ⟨fun h => (exec_of_executes h rfl {} []).trans ?_, fun k h => ?_⟩
  · have hRun : PeerRequest.run p {} [] .clearMark (s.grantStart p) = (s.grantStart p).runClearMark p := rfl
    rw [hRun, State.runClearMark, grantStart_session]
  · have hExec := exec_of_executes h rfl {} []
    have hRun : PeerRequest.run p {} [] (.ackNotice k) (s.grantStart p) = (s.grantStart p).runAckNotice p k := rfl
    rw [hRun, State.runAckNotice] at hExec
    cases hk : k.repeating with
    | true =>
      rw [if_pos hk] at hExec
      refine ⟨hExec.trans ?_, ?_, fun k' hk' => ?_⟩
      · rw [if_pos rfl]
        have hFlags : ((s.grantStart p).setFlag p k none).notices.flags.get p = ((s.grantStart p).notices.flags.get p).put k none :=
          PerPort.get_set_same ..
        rw [hFlags]
        rfl
      · rw [if_pos rfl, PendingFlags.get_put_same _ hk]
      · rw [if_pos rfl, PendingFlags.get_put_other _ hk']
    | false =>
      rw [if_neg (by rw [hk]; nofun)] at hExec
      refine ⟨hExec.trans ?_, ?_, fun k' _ => ?_⟩
      · rw [if_neg (by nofun), PerPort.set_get]
        rfl
      · rw [if_neg (by nofun), PendingFlags.get_of_once _ hk]
      · rw [if_neg (by nofun)]

theorem leaveTo_eq_ending (s : State) (p : Port) (st : SessionState) : s.leaveTo p st = s.ending p st := by
  unfold State.leaveTo State.ending
  by_cases h : s.isOpen p = true
  · rw [if_pos h, if_pos h]
    rfl
  · rw [if_neg h, if_neg h]
    rfl

/-- Settles O35, by the four refusals in their order. -/
theorem fencePeerFencesTheOtherPort : Obligations.FencePeerFencesTheOtherPort := by
  unfold Obligations.FencePeerFencesTheOtherPort
  intro p r s h
  have hExec := exec_of_executes h rfl {} []
  have hRun : PeerRequest.run p {} [] .fencePeer (s.grantStart p) = (s.grantStart p).runFencePeer p := rfl
  rw [hRun, State.runFencePeer, grantStart_session, grantStart_session, grantStart_settings] at hExec
  refine ⟨fun hd => ?_, fun hd hm => ?_, fun hd hm hOff => ?_, fun hd hm hOff hf => ?_, fun hd hm hOff hf => ?_⟩
  · rw [if_pos hd] at hExec
    exact hExec
  · rw [if_neg hd, if_pos hm] at hExec
    exact hExec
  · rw [if_neg hd, if_neg hm, if_pos hOff] at hExec
    exact hExec
  · rw [if_neg hd, if_neg hm, if_neg hOff, if_pos hf] at hExec
    exact hExec
  · rw [if_neg hd, if_neg hm, if_neg hOff, if_neg hf, State.fencePort, leaveTo_eq_ending, Port.other_other] at hExec
    exact hExec

end Sys2Proof.Machine
end

section
/-! PROOFS. ATTACH: the session it opens and what its grant leaves (R50 to R55). -/

-- The proofs are checked one after the other: run at once, their threads would exceed the memory bound of the check.
set_option Elab.async false

namespace Sys2Proof.Machine

/-- The record of a port whose session an ATTACH has just opened. -/
def State.attached (s : State) (p : Port) : Session :=
  { s.session p with
    state := .attached, epoch := nextEpoch (s.session p).epoch, holdings := 0, adoptions := 0, drainTimer := none, clearedSince := false
    lapseTimer := some (s.settings.lapsePeriod p), fenceLine := if s.isOpen p = true then false else (s.session p).fenceLine }

/-- The sweeper as an ATTACH leaves it: pending if a session was open. -/
def State.attachSweeper (s : State) (p : Port) : Sweeper :=
  if s.isOpen p = true then { s.sweeper with pending := true, endMarker := s.sweeper.position } else s.sweeper

/-- A state with the new session of an ATTACH, before its notice. -/
def State.opening (s : State) (p : Port) : State :=
  { s with
    sessions := s.sessions.set p (s.attached p)
    sweeper := s.attachSweeper p
    links := s.links.set p { s.link p with cache := [] }
    notices := { s.notices with flags := s.notices.flags.set p {}, serials := s.notices.serials.set p 0#8 } }

/-- The new session of an ATTACH with PEER_ATTACHED raised behind it. -/
def State.opened (s : State) (p : Port) : State :=
  (s.opening p).raise p.other .peerAttached (some ((nextEpoch (s.session p).epoch).setWidth 32))

/-- The payload of the reply to an ATTACH (Table 11-2). -/
def State.attachWords (s : State) (p : Port) (i : Word) : List Word :=
  [i, word2 s.journal.generation.toNat (nextEpoch (s.session p).epoch).toNat,
   wordOf ((s.session p.other).state.code * 2 ^ 8 + bitIf (s.session p).clearedSince 0 + bitIf s.journal.compromised 1 +
     bitIf (s.attachSweeper p).pending 2),
   wordOf s.orphanCount]

/-- A session opened over a record that an abnormal end has closed. -/
theorem openSession_of_closed (s : State) (p : Port) (x : Session) (sw : Sweeper) :
    ({ s with sessions := s.sessions.set p x, sweeper := sw } : State).openSession p =
      ({ s with
        sessions := s.sessions.set p { x with
          state := .attached, epoch := nextEpoch x.epoch, holdings := 0, adoptions := 0, drainTimer := none
          lapseTimer := some (s.settings.lapsePeriod p), clearedSince := false }
        sweeper := sw
        links := s.links.set p { s.link p with cache := [] }
        notices := { s.notices with flags := s.notices.flags.set p {}, serials := s.notices.serials.set p 0#8 } } : State).raise p.other
          .peerAttached (some ((nextEpoch x.epoch).setWidth 32)) := by
  have hSession : ({ s with sessions := s.sessions.set p x, sweeper := sw } : State).session p = x := PerPort.get_set_same ..
  have hSet : ∀ y, (s.sessions.set p x).set p y = s.sessions.set p y := fun y => PerPort.set_set ..
  unfold State.openSession
  rw [hSession]
  exact congrArg (fun l => ({ s with
    sessions := l, sweeper := sw
    links := s.links.set p { s.link p with cache := [] }
    notices := { s.notices with flags := s.notices.flags.set p {}, serials := s.notices.serials.set p 0#8 } } : State).raise p.other
      .peerAttached (some ((nextEpoch x.epoch).setWidth 32))) (hSet _)

/-- The session that ATTACH opens, whether or not it ends one. -/
theorem openSession_eq_opened (s : State) (p : Port) :
    (if s.isOpen p = true then s.endSession p .detached else s).openSession p = s.opened p := by
  unfold State.opened State.opening State.attached State.attachSweeper
  by_cases h : s.isOpen p = true
  · rw [if_pos h, if_pos h, if_pos h]
    exact openSession_of_closed s p ((s.session p).closeTo .detached) _
  · rw [if_neg h, if_neg h, if_neg h]
    rfl

theorem attachReply_opened (s : State) (p : Port) (i : Word) :
    (s.opened p).attachReply p i (s.session p).clearedSince = s.attachWords p i := by
  obtain ⟨hSessions, -, hJournal, -, hSweeper, -⟩ :=
    raise_frame (s.opening p) p.other .peerAttached (some ((nextEpoch (s.session p).epoch).setWidth 32))
  have hSame : (s.opened p).session p = s.attached p := by
    rw [session_eq, State.opened, hSessions]
    exact PerPort.get_set_same ..
  have hOther : (s.opened p).session p.other = s.session p.other := by
    rw [session_eq, State.opened, hSessions]
    exact PerPort.get_set_other ..
  rw [State.attachReply, hSame, hOther, State.orphanCount, State.opened, hJournal, hSweeper]
  rfl

/-- ATTACH from a port that is not FENCED, the engine past its initialisation. -/
theorem runAttach_of_welcome {s : State} {p : Port} (hi : s.engine.state ≠ .initializing) (hf : (s.session p).state ≠ .fenced) (i : Word) :
    s.runAttach p i = ({ status := .ok, payload := s.attachWords p i }, s.opened p) := by
  unfold State.runAttach
  rw [if_neg hi, if_neg hf]
  dsimp only
  rw [openSession_eq_opened, attachReply_opened]

/-! The end of a grant whose one notice is a once-only kind -/

/-- The raises that wait for a reply being one of a once-only kind, or none for want of a session. -/
theorem answered_of_once {u : State} {q : Port} {k : NoticeKind} {w : Option Word} (hk : k.repeating = false)
    (h : u.notices.held.getD [] = if u.isOpen q = true then [⟨q, k, w⟩] else []) (p : Port) (r : Request) (a : Answer) :
    u.answered p r a = ((u.replying p r a).sendNotice q k w).judgeRepeat := by
  have hAnswered : u.answered p r a = ((u.notices.held.getD []).foldl State.takeRaise (u.replying p r a)).judgeRepeat := by
    rw [State.answered, deliverReply_eq]
    rfl
  rw [hAnswered, h]
  by_cases ho : u.isOpen q = true
  · rw [if_pos ho]
    show ((u.replying p r a).takeRaise ⟨q, k, w⟩).judgeRepeat = _
    rw [takeRaise_of_clear (by rw [PendingFlags.get_of_once _ hk]; rfl), (flagged_parts ..).2.1 hk]
  · rw [if_neg ho, sendNotice_of_not_reached (s := u.replying p r a) fun hr => ho hr.1]
    rfl

theorem raise_once_held {s : State} (h : s.notices.held = some []) {k : NoticeKind} (hk : k.repeating = false) (q : Port) (w : Option Word) :
    (s.raise q k w).notices.held.getD [] = (if s.isOpen q = true then [⟨q, k, w⟩] else []) ∧
    s.raise q k w = { s with notices := { s.notices with held := (s.raise q k w).notices.held } } := by
  rw [raise_of_held h]
  by_cases ho : s.isOpen q = true
  · rw [if_pos (.inr ho), if_pos ho]
    exact ⟨rfl, rfl⟩
  · rw [if_neg fun hc => hc.elim (by rw [hk]; nofun) ho, if_neg ho]
    exact ⟨by rw [h]; rfl, rfl⟩

/-- A grant's start has the sessions, the settings and the sweeper that it found. -/
theorem attached_grantStart (s : State) (p : Port) :
    (s.grantStart p).attached p = s.attached p ∧ (s.grantStart p).attachSweeper p = s.attachSweeper p := by
  obtain ⟨-, -, -, -, -, -, -, -, hSweeper, -⟩ := grantStart_frame s p
  rw [State.attached, State.attachSweeper, grantStart_session, grantStart_isOpen, grantStart_settings, hSweeper]
  exact ⟨rfl, rfl⟩

theorem attachWords_grantStart (s : State) (p : Port) (i : Word) : (s.grantStart p).attachWords p i = s.attachWords p i := by
  obtain ⟨-, -, -, hOrphans, -, hGen, hComp, -⟩ := grantStart_frame s p
  rw [State.attachWords, grantStart_session, grantStart_session, (attached_grantStart s p).2, hGen, hComp, State.orphanCount, hOrphans]
  rfl

/-- A state whose session ATTACH has opened, with a pointer and raises that wait: what `s` becomes when no block is due to enter CLOSING. -/
def State.attachedAt (s : State) (p : Port) (held : Option (List Raise)) : State :=
  { s with
    sessions := s.sessions.set p (s.attached p)
    sweeper := s.attachSweeper p
    links := s.links.set p { s.link p with cache := [] }
    arbiter := { s.arbiter with pointer := portPlace p, lastWasScrub := false }
    notices := { s.notices with flags := s.notices.flags.set p {}, serials := s.notices.serials.set p 0#8, held := held } }

theorem opened_of_not_due {s : State} (h : s.closingDue = false) (p : Port) : ∃ held,
    (s.grantStart p).opened p = s.attachedAt p held ∧
    held.getD [] = if s.isOpen p.other = true
      then [⟨p.other, .peerAttached, some ((nextEpoch (s.session p).epoch).setWidth 32)⟩] else [] := by
  obtain ⟨hAttached, hSweeper⟩ := attached_grantStart s p
  have hOpening : (s.grantStart p).opening p = s.attachedAt p (some []) := by
    rw [State.opening, hAttached, hSweeper, grantStart_of_not_due s p h]
    rfl
  have hOpen : (s.attachedAt p (some [])).isOpen p.other = s.isOpen p.other := congrArg (fun x : Session => x.state.isOpen) (PerPort.get_set_other ..)
  obtain ⟨hHeld, hRaised⟩ := raise_once_held (s := s.attachedAt p (some [])) rfl (k := .peerAttached) rfl p.other
    (some ((nextEpoch (s.session p).epoch).setWidth 32))
  rw [hOpen] at hHeld
  refine ⟨_, ?_, hHeld⟩
  rw [State.opened, hOpening, grantStart_session]
  exact hRaised

theorem attachedAt_parts (s : State) (p : Port) (held : Option (List Raise)) :
    (s.attachedAt p held).session p = s.attached p ∧ (s.attachedAt p held).session p.other = s.session p.other ∧
    (s.attachedAt p held).link p = { s.link p with cache := [] } ∧ (s.attachedAt p held).link p.other = s.link p.other :=
  ⟨PerPort.get_set_same .., PerPort.get_set_other .., PerPort.get_set_same .., PerPort.get_set_other ..⟩

/-- PEER_ATTACHED behind the reply of an ATTACH: sent if the other port is reached. -/
theorem attach_told (s : State) (p : Port) (held : Option (List Raise)) {r : Request} {a : Answer} (w : Option Word) :
    let z := (s.attachedAt p held).replying p r a
    (s.reaches p.other → (z.sendNotice p.other .peerAttached w).link p.other = { s.link p.other with
        outbound := (s.link p.other).outbound ++
          [.notice .peerAttached (s.session p.other).epoch (s.notices.serials.get p.other) w] } ∧
      (z.sendNotice p.other .peerAttached w).notices.serials.get p.other = s.notices.serials.get p.other + 1#8) ∧
    (¬s.reaches p.other → (z.sendNotice p.other .peerAttached w).link p.other = s.link p.other ∧
      (z.sendNotice p.other .peerAttached w).notices.serials.get p.other = s.notices.serials.get p.other) := by
  intro z
  obtain ⟨-, hSession, -, hLink⟩ := attachedAt_parts s p held
  have zSession : z.session p.other = s.session p.other := hSession
  have zLink : z.link p.other = s.link p.other := (PerPort.get_set_other ..).trans hLink
  have zSerial : z.notices.serials.get p.other = s.notices.serials.get p.other := PerPort.get_set_other ..
  have hReaches : z.reaches p.other ↔ s.reaches p.other := by
    rw [State.reaches, State.reaches, zLink, State.isOpen, zSession]
    rfl
  refine ⟨fun h => ?_, fun h => ?_⟩
  · rw [sendNotice_of_reached (hReaches.2 h), zLink, zSession, zSerial]
    exact ⟨PerPort.get_set_same .., PerPort.get_set_same ..⟩
  · rw [sendNotice_of_not_reached fun hc => h (hReaches.1 hc)]
    exact ⟨zLink, zSerial⟩

/-- Settles O31, by the opened session and the delivery of its reply. -/
theorem attachOpensASession : Obligations.AttachOpensASession := by
  unfold Obligations.AttachOpensASession
  intro p r i s h hi hf
  obtain ⟨hAttached, hSweeper⟩ := attached_grantStart s p
  have hExec : exec (.attach p) s = .next (((s.grantStart p).opened p).answered p r { status := .ok, payload := s.attachWords p i }) := by
    refine (exec_of_unchecked h rfl {} []).trans ?_
    rw [PeerRequest.run, runAttach_of_welcome (by rw [grantStart_engine]; exact hi) (by rw [grantStart_session]; exact hf),
      attachWords_grantStart]
  refine ⟨?_, fun hDue => ⟨_, hExec, ?_⟩⟩
  · rw [hExec, State.opened, State.opening, hAttached, hSweeper, grantStart_session]
    rfl
  · obtain ⟨held, hOpened, hHeld⟩ := opened_of_not_due hDue p
    obtain ⟨hSame, hOther, hLink, hLinkOther⟩ := attachedAt_parts s p held
    have hOpen : (s.attachedAt p held).isOpen p.other = s.isOpen p.other := congrArg (fun x : Session => x.state.isOpen) hOther
    rw [← hOpen] at hHeld
    have hAnswered := answered_of_once (u := s.attachedAt p held) rfl hHeld p r { status := .ok, payload := s.attachWords p i }
    obtain ⟨hTold, hQuiet⟩ := attach_told s p held (r := r) (a := { status := .ok, payload := s.attachWords p i })
      (some ((nextEpoch (s.session p).epoch).setWidth 32))
    obtain ⟨nFlags, nLink, nSerial, nFrame⟩ := sendNotice_other
      ((s.attachedAt p held).replying p r { status := .ok, payload := s.attachWords p i }) p.other .peerAttached
      (some ((nextEpoch (s.session p).epoch).setWidth 32))
    rw [Port.other_other] at nLink nSerial
    rw [hOpened, hAnswered]
    have hReplied : ((s.attachedAt p held).replying p r { status := .ok, payload := s.attachWords p i }).link p =
        (s.attachedAt p held).replied p r { status := .ok, payload := s.attachWords p i } := PerPort.get_set_same ..
    rw [hReplied] at nLink
    generalize ((s.attachedAt p held).replying p r { status := .ok, payload := s.attachWords p i }).sendNotice p.other .peerAttached
      (some ((nextEpoch (s.session p).epoch).setWidth 32)) = t at *
    obtain ⟨jLinks, jSessions, jArbiter, jJournal, jEngine, jSweeper, jIntegrity, jFlags, jSerials, -, jService, jFaults, jReset, jFree,
      jPending⟩ := judgeRepeat_frame t
    have jSession : ∀ q, t.judgeRepeat.session q = (s.attachedAt p held).session q := fun q => by
      rw [session_eq, jSessions, nFrame]
      rfl
    have jLink : ∀ q, t.judgeRepeat.link q = t.link q := fun q => congrArg (fun l => PerPort.get l q) jLinks
    have hHere : t.judgeRepeat.session p = s.attached p := (jSession p).trans hSame
    have hPort : t.judgeRepeat.link p =
        (s.attachedAt p held).replied p r { status := .ok, payload := s.attachWords p i } := (jLink p).trans nLink
    have hEpoch : ((s.attachedAt p held).session p).epoch = nextEpoch (s.session p).epoch := congrArg Session.epoch hSame
    rw [State.replied, hLink, hEpoch] at hPort
    refine ⟨congrArg Session.state hHere, congrArg Session.epoch hHere, (congrArg Session.lapseMark hHere).trans rfl, congrArg Session.holdings hHere,
      congrArg Session.adoptions hHere, congrArg Session.lapseTimer hHere, congrArg Session.drainTimer hHere,
      congrArg Session.clearedSince hHere, (jSession p.other).trans hOther, (congrArg Link.cache hPort).trans rfl, (congrArg Link.requests hPort).trans rfl,
      (congrArg Link.state hPort).trans rfl, (congrArg Link.outbound hPort).trans rfl, jFlags.trans nFlags, ?_, fun h => ?_, fun h => ?_, ?_, ?_, ?_, ?_, ?_, ?_,
      ?_, ?_, ?_, ?_⟩
    · rw [jSerials, nSerial]
      exact PerPort.get_set_same ..
    · rw [jLink, jSerials]
      exact hTold h
    · rw [jLink, jSerials]
      exact hQuiet h
    · exact jSweeper.trans ((congrArg State.sweeper nFrame).trans rfl)
    · exact jArbiter.trans ((congrArg State.arbiter nFrame).trans rfl)
    · exact jJournal.trans ((congrArg State.journal nFrame).trans rfl)
    · exact jEngine.trans ((congrArg State.engine nFrame).trans rfl)
    · exact jIntegrity.trans ((congrArg State.integrity nFrame).trans rfl)
    · exact jService.trans ((congrArg State.service nFrame).trans rfl)
    · exact jFaults.trans ((congrArg State.faults nFrame).trans rfl)
    · exact jReset.trans ((congrArg State.resetCtl nFrame).trans rfl)
    · exact jFree.trans ((congrArg State.freeCount nFrame).trans rfl)
    · exact jPending.trans ((congrArg State.pending nFrame).trans rfl)

end Sys2Proof.Machine
end

section
/-! PROOFS. OPEN, CLOSE, QUERY, ADOPT and RESOLVE: what each answers, from the entry as its read and conversion left it. -/

-- The proofs are checked one after the other: run at once, their threads would exceed the memory bound of the check.
set_option Elab.async false

namespace Sys2Proof.Machine

/-! The checks of OPEN and ADOPT, and the lookup -/

theorem runOpen_of_frozen {s : State} (h : s.engine.state = .frozen) (p : Port) (k : RegionKey) (note : List Word) (w : SlotWear) :
    s.runOpen p k note w = ({ status := .frozen }, s) := by
  unfold State.runOpen
  rw [if_pos h]

theorem runOpen_of_draining {s : State} {p : Port} (h : s.engine.state ≠ .frozen) (hd : (s.session p).state = .draining) (k : RegionKey)
    (note : List Word) (w : SlotWear) : s.runOpen p k note w = ({ status := .draining }, s) := by
  unfold State.runOpen
  rw [if_neg h, if_pos hd]

theorem runAdopt_of_frozen {s : State} (h : s.engine.state = .frozen) (p : Port) (ws : List SlotWear) :
    s.runAdopt p ws = ({ status := .frozen }, s) := by
  unfold State.runAdopt
  rw [if_pos h]

theorem runAdopt_of_draining {s : State} {p : Port} (h : s.engine.state ≠ .frozen) (hd : (s.session p).state = .draining)
    (ws : List SlotWear) : s.runAdopt p ws = ({ status := .draining }, s) := by
  unfold State.runAdopt
  rw [if_neg h, if_pos hd]

/-- Settles O38, by the checks that OPEN and ADOPT make first. -/
theorem frozenAndDrainingRefuseOpenAndAdopt : Obligations.FrozenAndDrainingRefuseOpenAndAdopt := by
  unfold Obligations.FrozenAndDrainingRefuseOpenAndAdopt
  intro p r k w ws s h hk
  have hEngine := grantStart_engine s p
  have hSession := grantStart_session s p p
  rcases hk with ⟨key, note, rfl⟩ | rfl
  · refine ⟨fun hf => (exec_of_executes h rfl w ws).trans ?_, fun hf hd => (exec_of_executes h rfl w ws).trans ?_⟩
    · rw [PeerRequest.run, runOpen_of_frozen (hEngine.trans hf)]
    · rw [PeerRequest.run, runOpen_of_draining (by rw [hEngine]; exact hf) (by rw [hSession, hd])]
  · refine ⟨fun hf => (exec_of_executes h rfl w ws).trans ?_, fun hf hd => (exec_of_executes h rfl w ws).trans ?_⟩
    · rw [PeerRequest.run, runAdopt_of_frozen (hEngine.trans hf)]
    · rw [PeerRequest.run, runAdopt_of_draining (by rw [hEngine]; exact hf) (by rw [hSession, hd])]

theorem grantStart_lookup (s : State) (p : Port) (k : RegionKey) : (s.grantStart p).lookup k = s.lookup k := by
  obtain ⟨-, -, hIndex, -⟩ := grantStart_frame s p
  rw [State.lookup, hIndex]
  rfl

/-- R12: a lookup names the slot of the live entry with the key. -/
theorem lookup_eq_some_iff {s : State} (h : Lawful s) {k : RegionKey} {n : Nat} :
    s.lookup k = some n ↔ ∃ a, s.assoc n = some a ∧ a.key = k := by
  have hJournal := (Inv.of_lawful h).journal
  have hIndex : ∀ {m b}, (m, b) ∈ s.journal.index ↔ s.assoc m = some b := mem_index_iff hJournal.indexWf
  refine ⟨fun hk => ?_, fun ⟨a, ha, hak⟩ => ?_⟩
  · obtain ⟨a, ha, hak⟩ := mem_of_findKey hk
    exact ⟨a, hIndex.1 ha, hak⟩
  · cases hk : s.lookup k with
    | none => exact absurd hak (findKey_eq_none_iff.1 hk _ (hIndex.2 ha))
    | some m =>
      obtain ⟨b, hb, hbk⟩ := mem_of_findKey hk
      obtain ⟨e, hLive, -⟩ := hJournal.exists_entry ha
      obtain ⟨f, hLive', -⟩ := hJournal.exists_entry (hIndex.1 hb)
      rw [hak] at hLive
      rw [hbk] at hLive'
      rw [hJournal.table.keys hLive' hLive]

/-! CLOSE, QUERY and RESOLVE up to the entry that their read leaves -/

/-- The slot of a key holds no entry: the index names none, or the read has lost it. `v` is the state after the lookup and its read. -/
def State.Missing (s : State) (p : Port) (k : RegionKey) (w : SlotWear) (v : State) : Prop :=
  (s.lookup k = none ∧ v = s.grantStart p) ∨ ∃ n, s.lookup k = some n ∧ v = (s.grantStart p).readSlot n w ∧ v.entryAt n = none

theorem runs_of_missing {s v : State} {p : Port} {k : RegionKey} {w : SlotWear} (h : s.Missing p k w v) :
    (s.grantStart p).runClose p k w = ({ status := .notFound }, v) ∧ (s.grantStart p).runQuery k w = ({ status := .noEntry }, v) ∧
    (s.grantStart p).runResolve p k w = ({ status := .notFound }, v) := by
  unfold State.runClose State.runQuery State.runResolve
  rw [grantStart_lookup]
  rcases h with ⟨hNone, rfl⟩ | ⟨n, hSome, rfl, hLost⟩
  · rw [hNone]
    exact ⟨rfl, rfl, rfl⟩
  · rw [hSome]
    dsimp only
    rw [hLost]
    exact ⟨rfl, rfl, rfl⟩

theorem runClose_of_entry {s : State} {p : Port} {k : RegionKey} {w : SlotWear} {n : Nat} {e : EntryBody} (hk : s.lookup k = some n)
    (he : ((s.grantStart p).readSlot n w).entryAt n = some e) :
    (e.hold p = none → (s.grantStart p).runClose p k w = ({ status := .notHeld }, (s.grantStart p).readSlot n w)) ∧
    ∀ h, e.hold p = some h → (s.grantStart p).runClose p k w = ((s.grantStart p).readSlot n w).closeHold p k n e h := by
  unfold State.runClose
  rw [grantStart_lookup, hk]
  dsimp only
  rw [he]
  refine ⟨fun hp => ?_, fun h hp => ?_⟩
  · dsimp only
    rw [hp]
  · dsimp only
    rw [hp]

/-- Settles O40, by the lookup and the entry that the read leaves. -/
theorem keysWithoutAnEntryAreNotFound : Obligations.KeysWithoutAnEntryAreNotFound := by
  unfold Obligations.KeysWithoutAnEntryAreNotFound
  refine ⟨fun s k n h => lookup_eq_some_iff h, fun p r k w s v => ⟨fun hMissing => ?_, fun n e hk hv he hp h => ?_⟩⟩
  · obtain ⟨hClose, hQuery, hResolve⟩ := runs_of_missing (w := w) hMissing
    refine ⟨fun h => (exec_of_executes h rfl w []).trans ?_, fun h => (exec_of_executes h rfl w []).trans ?_,
      fun h => (exec_of_executes h rfl w []).trans ?_⟩
    · rw [PeerRequest.run, hClose]
    · rw [PeerRequest.run, hQuery]
    · rw [PeerRequest.run, hResolve]
  · subst hv
    refine (exec_of_executes h rfl w []).trans ?_
    rw [PeerRequest.run, (runClose_of_entry hk he).1 hp]

/-! QUERY (R43, R44) -/

theorem word4_ofNat {a b c d : Nat} (ha : a < 256) (hb : b < 256) (hc : c < 256) (hd : d < 256) :
    word4 (BitVec.ofNat 8 a) (BitVec.ofNat 8 b) (BitVec.ofNat 8 c) (BitVec.ofNat 8 d) =
      wordOf (a * 2 ^ 24 + b * 2 ^ 16 + c * 2 ^ 8 + d) := by
  apply BitVec.eq_of_toNat_eq
  rw [word4_toNat, wordOf, BitVec.toNat_ofNat, BitVec.toNat_ofNat, BitVec.toNat_ofNat, BitVec.toNat_ofNat, BitVec.toNat_ofNat,
    Nat.mod_eq_of_lt ha, Nat.mod_eq_of_lt hb, Nat.mod_eq_of_lt hc, Nat.mod_eq_of_lt hd]
  omega

theorem word2_of_lt {a b : Nat} (ha : a < 2 ^ 16) (hb : b < 2 ^ 16) : word2 a b = wordOf (a * 2 ^ 16 + b) := by
  unfold word2 wordOf
  rw [Nat.mod_eq_of_lt ha, Nat.mod_eq_of_lt hb]

theorem bitIf_le (b : Bool) (i : Nat) : bitIf b i ≤ 2 ^ i := by
  cases b
  · exact Nat.zero_le _
  · exact Nat.le_refl _

/-- Settles O41, by the layout of the report. -/
theorem queryReportsTheEntry : Obligations.QueryReportsTheEntry := by
  unfold Obligations.QueryReportsTheEntry
  intro p r k w s n e h hk v he hA hB hNote
  refine (exec_of_executes h rfl w []).trans ?_
  have hRun : (s.grantStart p).runQuery k w = ({ status := .ok, payload := queryReply e }, v) := by
    unfold State.runQuery
    rw [grantStart_lookup, hk]
    dsimp only
    rw [show ((s.grantStart p).readSlot n w).entryAt n = some e from he]
  have hState : entryStateCode e.state < 256 := by
    cases e.state <;> decide
  have hFlags : bitIf e.lostHolder 0 + bitIf e.damaged 1 + bitIf e.adopter.isSome 2 + e.note.length * 16 < 256 := by
    have h0 := bitIf_le e.lostHolder 0
    have h1 := bitIf_le e.damaged 1
    have h2 := bitIf_le e.adopter.isSome 2
    omega
  rw [PeerRequest.run, hRun, queryReply, word4_ofNat hState (by omega) (by omega) hFlags]
  cases hAdopter : e.adopter with
  | none => rfl
  | some a =>
    have hPort : portCode a.port < 2 ^ 16 := by
      cases a.port <;> decide
    dsimp only
    rw [word2_of_lt hPort a.epoch.isLt]
    rfl

/-! OPEN of a key with an entry (R29 to R31, R33) -/

theorem runOpen_of_ready {s : State} {p : Port} (hReady : s.engine.state = .ready) (ha : (s.session p).state = .attached) (k : RegionKey)
    (note : List Word) (w : SlotWear) :
    (s.lookup k = none → (s.grantStart p).runOpen p k note w = (s.grantStart p).createEntry p k note) ∧
    ∀ n, s.lookup k = some n →
      (((s.grantStart p).readSlot n w).entryAt n = none →
        (s.grantStart p).runOpen p k note w = ((s.grantStart p).readSlot n w).createEntry p k note) ∧
      ∀ e, ((s.grantStart p).readSlot n w).entryAt n = some e →
        (s.grantStart p).runOpen p k note w = ((s.grantStart p).readSlot n w).joinEntry p k note n e := by
  unfold State.runOpen
  rw [grantStart_engine, grantStart_session, grantStart_lookup, if_neg (by rw [hReady]; nofun), if_neg (by rw [ha]; nofun)]
  refine ⟨fun hk => ?_, fun n hk => ⟨fun he => ?_, fun e he => ?_⟩⟩
  · rw [hk]
  · rw [hk]
    dsimp only
    rw [he]
  · rw [hk]
    dsimp only
    rw [he]

/-- The answers to an OPEN of an entry in recovery, and of an OPEN entry with and without a hold of the port. -/
theorem joinEntry_cases (v : State) (p : Port) (k : RegionKey) (note : List Word) (n : Nat) (e : EntryBody) :
    (e.state ≠ .opened → v.joinEntry p k note n e =
      ({ status := .inRecovery, payload := [wordOf (entryStateCode e.state)] }, v)) ∧
    (∀ h, e.state = .opened → e.hold p = some h → v.joinEntry p k note n e = if h.count < Config.holdLimit
      then ({ status := .joined, payload := stampAndCount e.stamp (h.count + 1) },
        v.bodyWrite n { e.setHold p (some { h with count := h.count + 1 }) with note := appliedNote note e.note })
      else ({ status := .holdLimit, payload := stampAndCount e.stamp h.count }, v)) ∧
    (e.state = .opened → e.hold p = none → v.joinEntry p k note n e =
      if v.settings.quota p ≤ (v.session p).holdings then v.refuseQuota p k
      else ({ status := .joined, payload := stampAndCount e.stamp 1 },
        (v.bodyWrite n { e.setHold p (some { count := 1, epoch := (v.session p).epoch }) with
          note := appliedNote note e.note }).raiseHoldings p)) := by
  unfold State.joinEntry
  refine ⟨fun hs => ?_, fun h hs hp => ?_, fun hs hp => ?_⟩
  · cases hState : e.state with
    | opened => exact absurd hState hs
    | orphan | adopted => rfl
  · rw [hs]
    dsimp only
    rw [hp]
  · rw [hs]
    dsimp only
    rw [hp]

/-- Settles O37, by the entry's state and the port's hold. -/
theorem openOfAnEntryJoinsIt : Obligations.OpenOfAnEntryJoinsIt := by
  unfold Obligations.OpenOfAnEntryJoinsIt
  intro p r k note w s n e h hReady ha hk v x newNote he
  have hRun : PeerRequest.run p w [] (.openIntent k note) (s.grantStart p) = v.joinEntry p k note n e :=
    ((runOpen_of_ready hReady ha k note w).2 n hk).2 e he
  obtain ⟨hRecovery, hHeld, hNew⟩ := joinEntry_cases v p k note n e
  have hExec := exec_of_executes h rfl w []
  rw [hRun] at hExec
  refine ⟨fun hs => ?_, fun g hs hp hc => ?_, fun g hs hp hc => ?_, fun hs hp hq => ?_, fun hs hp hq => ?_⟩
  · rw [hRecovery hs] at hExec
    exact hExec
  · rw [hHeld g hs hp, if_pos (show g.count < Config.holdLimit from hc)] at hExec
    exact hExec
  · rw [hHeld g hs hp, if_neg (show ¬g.count < Config.holdLimit from Nat.not_lt.2 hc)] at hExec
    exact hExec
  · rw [hNew hs hp, if_pos hq] at hExec
    exact hExec
  · have hSession : (v.bodyWrite n { e.setHold p (some { count := 1, epoch := (v.session p).epoch }) with
        note := appliedNote note e.note }).session p = v.session p := by
      simp
    rw [hNew hs hp, if_neg (Nat.not_le.2 hq), State.raiseHoldings, hSession] at hExec
    exact hExec

/-! ADOPT (R88 to R90) -/

/-- An ADOPT takes no more entries than it has room for. -/
theorem adoptLoop_le (p : Port) (fuel room : Nat) (ws : List SlotWear) (s : State) : (State.adoptLoop p fuel room ws s).1.1 ≤ room := by
  induction fuel generalizing room ws s with
  | zero => exact Nat.zero_le _
  | succ fuel ih =>
    cases room with
    | zero => exact Nat.zero_le _
    | succ room =>
      unfold State.adoptLoop
      split
      · exact Nat.zero_le _
      split
      · exact ih _ _ _
      dsimp only
      split
      · exact ih _ _ _
      · exact Nat.succ_le_succ (ih _ _ _)

/-- Settles O42, by one turn of the loop. -/
theorem adoptTakesFromTheHead : Obligations.AdoptTakesFromTheHead := by
  unfold Obligations.AdoptTakesFromTheHead
  refine ⟨fun p r ws s h hReady ha => ⟨adoptLoop_le .., ?_⟩, fun p fuel room ws s h => ?_, fun p fuel room ws s o rest n ho hk => ?_⟩
  · refine (exec_of_executes h rfl {} ws).trans ?_
    have hRun : PeerRequest.run p {} ws .adopt (s.grantStart p) = (s.grantStart p).runAdopt p ws := rfl
    rw [hRun, State.runAdopt, grantStart_engine, grantStart_session, if_neg (by rw [hReady]; nofun), if_neg (by rw [ha]; nofun)]
    rfl
  · cases fuel with
    | zero => rfl
    | succ fuel =>
      cases room with
      | zero => rfl
      | succ room =>
        unfold State.adoptLoop
        rw [h.resolve_right (Nat.succ_ne_zero room)]
  · refine ⟨fun e he => ?_, fun he => ?_⟩
    · have hSession : ∀ x : EntryBody, ((((s.readSlot n (ws.headD {})).dropOrphan o.key).bodyWrite n x).session p) =
          (s.readSlot n (ws.headD {})).session p := fun x => by simp
      have hTaken : (s.readSlot n (ws.headD {})).takeOrphan p o.key n e =
          (((s.readSlot n (ws.headD {})).dropOrphan o.key).bodyWrite n { e with
            state := .adopted, adopter := some ⟨p, ((s.readSlot n (ws.headD {})).session p).epoch⟩ }).setSession p
              { (s.readSlot n (ws.headD {})).session p with adoptions := ((s.readSlot n (ws.headD {})).session p).adoptions + 1 } := by
        rw [State.takeOrphan, State.raiseAdoptions, hSession]
      rw [← hTaken, State.adoptLoop, ho]
      dsimp only
      rw [hk]
      dsimp only
      rw [he]
      rfl
    · rw [State.adoptLoop, ho]
      dsimp only
      rw [hk]
      dsimp only
      rw [show (s.readSlot n (ws.headD {})).entryAt n = none from he]

end Sys2Proof.Machine
end

section
/-! PROOFS. What the tests for a retirement leave, spelled out: the notices they raise, the head of the queue entering CLOSING, and
the tests made again and again as one after another (R45, R46, R165, R166, R169). -/

-- The proofs are checked one after the other: run at once, their threads would exceed the memory bound of the check.
set_option Elab.async false

namespace Sys2Proof.Machine

/-! A raise depends on the links, the sessions and the notices alone -/

/-- The notice unit finds the same in two states. -/
structure Alike (s t : State) : Prop where
  links : t.links = s.links
  isOpen : ∀ p, t.isOpen p = s.isOpen p
  epoch : ∀ p, (t.session p).epoch = (s.session p).epoch
  notices : t.notices = s.notices

/-- A state with the links and the notices of another. -/
def State.told (t s : State) : State := { t with links := s.links, notices := s.notices }

theorem Alike.of_sessions {s t : State} (hLinks : t.links = s.links) (hSessions : t.sessions = s.sessions) (hNotices : t.notices = s.notices) :
    Alike s t :=
  ⟨hLinks, fun p => congrArg (fun x => (PerPort.get x p).state.isOpen) hSessions, fun p => congrArg (fun x => (PerPort.get x p).epoch) hSessions,
    hNotices⟩

theorem Alike.refl (s : State) : Alike s s := .of_sessions rfl rfl rfl

theorem Alike.told_self {s t : State} (h : Alike s t) : t = t.told s := by
  rw [State.told, ← h.links, ← h.notices]

theorem sendNotice_alike {s t : State} (h : Alike s t) (p : Port) (k : NoticeKind) (w : Option Word) :
    t.sendNotice p k w = t.told (s.sendNotice p k w) := by
  have hReaches : t.reaches p ↔ s.reaches p := by
    rw [State.reaches, State.reaches, h.isOpen, State.link, h.links]
    rfl
  by_cases hr : s.reaches p
  · rw [sendNotice_of_reached hr, sendNotice_of_reached (hReaches.2 hr), State.told, State.link, h.links, h.epoch,
      h.notices]
    rfl
  · rw [sendNotice_of_not_reached hr, sendNotice_of_not_reached fun hc => hr (hReaches.1 hc)]
    exact h.told_self

theorem takeRaise_alike {s t : State} (h : Alike s t) (p : Port) (k : NoticeKind) (w : Option Word) :
    t.takeRaise ⟨p, k, w⟩ = t.told (s.takeRaise ⟨p, k, w⟩) := by
  cases hs : ((s.notices.flags.get p).get k).isSome with
  | true =>
    rw [takeRaise_of_set hs, takeRaise_of_set (by rw [h.notices, hs])]
    exact h.told_self
  | false =>
    have hFlagged : Alike (s.flagged p k w) (t.flagged p k w) ∧ t.flagged p k w = t.told (s.flagged p k w) := by
      unfold State.flagged
      cases k.repeating with
      | true =>
        have hNotices : (t.setFlag p k (some w)).notices = (s.setFlag p k (some w)).notices := by
          rw [State.setFlag, State.setFlag, h.notices]
          rfl
        refine ⟨⟨h.links, h.isOpen, h.epoch, hNotices⟩, ?_⟩
        rw [if_pos rfl, if_pos rfl, State.told, ← hNotices, show (s.setFlag p k (some w)).links = t.links from h.links.symm]
        rfl
      | false => exact ⟨h, h.told_self⟩
    rw [takeRaise_of_clear hs, takeRaise_of_clear (by rw [h.notices, hs]), sendNotice_alike hFlagged.1, hFlagged.2]
    rfl

theorem raise_alike {s t : State} (h : Alike s t) (p : Port) (k : NoticeKind) (w : Option Word) :
    t.raise p k w = t.told (s.raise p k w) := by
  cases hs : s.notices.held with
  | none => rw [raise_of_none hs, raise_of_none (by rw [h.notices, hs]), takeRaise_alike h]
  | some l =>
    rw [raise_of_held hs, raise_of_held (by rw [h.notices, hs]), h.isOpen]
    by_cases hc : k.repeating = true ∨ s.isOpen p = true
    · rw [if_pos hc, if_pos hc, State.told, h.notices, ← h.links]
    · rw [if_neg hc, if_neg hc]
      exact h.told_self

theorem Alike.raise {s t : State} (h : Alike s t) (p : Port) (k : NoticeKind) (w : Option Word) : Alike (s.raise p k w) (t.raise p k w) := by
  have hTold := raise_alike h p k w
  obtain ⟨hSessions, -⟩ := raise_frame s p k w
  obtain ⟨hSessions', -⟩ := raise_frame t p k w
  refine ⟨by rw [hTold]; rfl, fun q => ?_, fun q => ?_, by rw [hTold]; rfl⟩
  · rw [State.isOpen, State.isOpen, State.session, State.session, hSessions, hSessions']
    exact h.isOpen q
  · rw [State.session, State.session, hSessions, hSessions']
    exact h.epoch q

theorem raiseBoth_alike {s t : State} (h : Alike s t) (k : NoticeKind) (w : Option Word) : t.raiseBoth k w = t.told (s.raiseBoth k w) := by
  rw [State.raiseBoth, State.raiseBoth, raise_alike (h.raise .a k w), raise_alike h]
  rfl

theorem Alike.raiseBoth {s t : State} (h : Alike s t) (k : NoticeKind) (w : Option Word) : Alike (s.raiseBoth k w) (t.raiseBoth k w) :=
  (h.raise .a k w).raise .b k w

theorem raiseBoth_eq_told (s : State) (k : NoticeKind) (w : Option Word) : s.raiseBoth k w = s.told (s.raiseBoth k w) :=
  raiseBoth_alike (.refl s) k w

/-! The low-water test and the re-arm test (R45, R46) -/

theorem lowWaterTest_cases (s : State) :
    (s.engine.armed = true ∧ s.pooled < s.settings.lowWater ∧ s.lowWaterTest =
      ({ s with engine := { s.engine with armed := false } } : State).raiseBoth .journalLow (some (wordOf s.pooled))) ∨
    (¬(s.engine.armed = true ∧ s.pooled < s.settings.lowWater) ∧ s.lowWaterTest = s) := by
  unfold State.lowWaterTest
  by_cases h : s.engine.armed = true ∧ s.pooled < s.settings.lowWater
  · exact .inl ⟨h.1, h.2, if_pos h⟩
  · exact .inr ⟨h, if_neg h⟩

/-- The test changes the arming, and the links and the notices, alone. -/
theorem lowWaterTest_eq (s : State) :
    s.lowWaterTest = { s with engine := s.lowWaterTest.engine, notices := s.lowWaterTest.notices, links := s.lowWaterTest.links } := by
  rcases lowWaterTest_cases s with ⟨-, -, h⟩ | ⟨-, h⟩
  · rw [h, raiseBoth_eq_told]
    rfl
  · rw [h]

/-- R45, in a state that the notice unit, the engine and the settings find like `v`. -/
theorem lowWater_of_test {v s : State} (h : Alike v s) (hEngine : s.engine = v.engine) (hSettings : s.settings = v.settings) {n : Nat}
    (hn : s.pooled = n) : LowWater v s.lowWaterTest n := by
  subst hn
  unfold LowWater
  rcases lowWaterTest_cases s with ⟨hArmed, hLow, hTest⟩ | ⟨hNot, hTest⟩
  · rw [if_pos ⟨by rw [← hEngine, hArmed], by rwa [← hSettings]⟩, hTest,
      raiseBoth_alike (s := v) (t := { s with engine := { s.engine with armed := false } }) ⟨h.links, h.isOpen, h.epoch, h.notices⟩, hEngine]
    exact ⟨rfl, rfl, rfl⟩
  · rw [if_neg (by rwa [← hEngine, ← hSettings]), hTest]
    exact ⟨hEngine, h.notices, h.links⟩

theorem LowWater.congr {v y z : State} {n : Nat} (h : LowWater v z n) (hEngine : y.engine = z.engine) (hNotices : y.notices = z.notices)
    (hLinks : y.links = z.links) : LowWater v y n := by
  unfold LowWater at h ⊢
  rw [hEngine, hNotices, hLinks]
  exact h

theorem rearmTest_eq (s : State) : s.rearmTest = { s with engine := { s.engine with armed := s.rearmedAt s.pooled } } := by
  unfold State.rearmTest State.rearmedAt
  show (if s.engine.armed = false ∧ s.settings.lowWater + 16 ≤ s.pooled then _ else _) = _
  by_cases hArmed : s.engine.armed = true
  · rw [if_neg fun h => absurd (hArmed.symm.trans h.1) (by decide), hArmed, Bool.true_or, ← hArmed]
  · have hClear : s.engine.armed = false := Bool.eq_false_iff.2 hArmed
    by_cases hRoom : s.settings.lowWater + 16 ≤ s.pooled
    · rw [if_pos ⟨hClear, hRoom⟩, decide_eq_true hRoom, Bool.or_true]
      rfl
    · rw [if_neg fun h => hRoom h.2, decide_eq_false hRoom, Bool.or_false]

/-! The tests for the block in progress, and the entry to CLOSING of the next (R165, R166, R169) -/

/-- A retirement tells both ports; the rest is the block's state and the reserve. -/
theorem retire_eq (s : State) (b : Nat) :
    s.retire b = { s with integrity := (s.retire b).integrity, notices := (s.raiseBoth .blockRetired (some (wordOf b))).notices
                          links := (s.raiseBoth .blockRetired (some (wordOf b))).links } := by
  have h : s.retire b = ({ s with integrity := { (s.setBlockState b .retired).integrity with reserve := 0 } } : State).told
      (s.raiseBoth .blockRetired (some (wordOf b))) :=
    raiseBoth_alike (s := s) (t := { s with integrity := { (s.setBlockState b .retired).integrity with reserve := 0 } }) (.of_sessions rfl rfl rfl) ..
  rw [h]
  rfl

theorem retire_told (s : State) (b : Nat) : (s.retire b).notices = (s.raiseBoth .blockRetired (some (wordOf b))).notices ∧
    (s.retire b).links = (s.raiseBoth .blockRetired (some (wordOf b))).links := by
  rw [retire_eq]
  exact ⟨rfl, rfl⟩

theorem testProgress_eq (s : State) : s.testProgress = { s with
    integrity := s.testProgress.integrity, notices := s.testProgress.notices, links := s.testProgress.links } := by
  rcases testProgress_cases s with ⟨h, -⟩ | ⟨b, -, -, -, h⟩ | ⟨b, -, -, -, h⟩
  · rw [h]
  · rw [h, retire_eq]
  · rw [h]
    rfl

theorem testProgress_of_idle {s : State} (h : s.engine.state ≠ .ready ∨ s.inProgress = none) : s.testProgress = s := by
  rcases testProgress_cases s with ⟨ht, -⟩ | ⟨b, hReady, hb, -, -⟩ | ⟨b, hReady, hb, -, -⟩
  · exact ht
  · exact absurd h (by rw [hb]; simp [hReady])
  · exact absurd h (by rw [hb]; simp [hReady])

theorem testProgress_of_some {s : State} {b : Nat} (hReady : s.engine.state = .ready) (hb : s.inProgress = some b) :
    (s.integrity.reserve = 0 ∧ s.testProgress = s.retire b) ∨
    (0 < s.integrity.reserve ∧ s.testProgress = s.setBlockState b (if s.integrity.reserve ≤ s.pooled then .moving else .closing)) := by
  rcases testProgress_cases s with ⟨-, hNot⟩ | ⟨c, -, hc, h0, ht⟩ | ⟨c, -, hc, hPos, ht⟩
  · exact absurd hNot (by rw [hb]; simp [hReady])
  · obtain rfl := Option.some.inj (hb.symm.trans hc)
    exact .inl ⟨h0, ht⟩
  · obtain rfl := Option.some.inj (hb.symm.trans hc)
    exact .inr ⟨hPos, ht⟩

theorem testProgress_of_due {s : State} (h : s.closingDue = true) : s.testProgress = s :=
  testProgress_of_idle (.inr (closingDue_iff.1 h).2.1)

theorem enterIfDue_of_not_due {s : State} (h : s.closingDue = false) : s.enterIfDue = s := by
  unfold State.enterIfDue
  rw [if_neg (by rw [h]; nofun)]

theorem not_due_of_empty {s : State} (h : s.integrity.retireQueue = []) : s.closingDue = false :=
  Bool.eq_false_iff.2 fun hDue => (closingDue_iff.1 hDue).2.2 h

theorem enterClosing_queue (s : State) (b : Nat) (rest : List Nat) : (s.enterClosing b rest).integrity.retireQueue = rest := by
  rw [enterClosing_integrity]

/-- With the head of the queue due, the tests begin with its entry to CLOSING. -/
theorem settle_of_due {s : State} (h : s.closingDue = true) {b : Nat} {rest : List Nat} (hQueue : s.integrity.retireQueue = b :: rest) :
    s.settle = (s.enterClosing b rest).settle := by
  unfold State.settle
  rw [hQueue, enterClosing_queue]
  show State.settleWithin (rest.length + 1) s = _
  rw [State.settleWithin]
  rw [testProgress_of_due h, if_pos h, hQueue]

theorem enterIfDue_of_due {s : State} (h : s.closingDue = true) {b : Nat} {rest : List Nat} (hQueue : s.integrity.retireQueue = b :: rest) :
    s.enterIfDue = (s.enterClosing b rest).settle := by
  unfold State.enterIfDue
  rw [if_pos h, settle_of_due h hQueue]

/-- The tests, and then the next entry to CLOSING if it is due. -/
theorem settle_eq (s : State) : s.settle = s.testProgress.enterIfDue := by
  have hQueue : s.testProgress.integrity.retireQueue = s.integrity.retireQueue := (testProgress_frame s).2.2.2.2.2.1
  cases hs : s.integrity.retireQueue with
  | nil =>
    rw [enterIfDue_of_not_due (not_due_of_empty (hQueue.trans hs)), State.settle, hs]
    rfl
  | cons b rest =>
    rw [State.settle, hs]
    show State.settleWithin (rest.length + 1) s = _
    rw [State.settleWithin]
    cases hDue : s.testProgress.closingDue with
    | false => rw [enterIfDue_of_not_due hDue, if_neg (by nofun)]
    | true =>
      rw [enterIfDue_of_due hDue (hQueue.trans hs), if_pos rfl, hQueue, hs, State.settle, enterClosing_queue]

theorem settle_of_empty {s : State} (h : s.integrity.retireQueue = []) : s.settle = s.testProgress := by
  rw [State.settle, h]
  rfl

/-- The state behind the low-water test of an entry to CLOSING: `b` is CLOSING, its pooled slots are withdrawn. -/
def State.withdrawn (s : State) (b : Nat) (rest : List Nat) : State :=
  { s with integrity := { (s.setBlockState b .closing).integrity with retireQueue := rest }
           journal := { s.journal with pool := s.journal.pool.filter fun n => blockOf n ≠ b } }

theorem enterClosing_eq (s : State) (b : Nat) (rest : List Nat) : s.enterClosing b rest =
    { (if (s.withdrawn b rest).pooled < s.pooled then (s.withdrawn b rest).lowWaterTest else s.withdrawn b rest) with
      integrity := { (s.setBlockState b .closing).integrity with retireQueue := rest, reserve := s.liveInBlock b } } := by
  have hIntegrity : ({ s.integrity.setBlock b { s.block b with state := .closing } with
      retireQueue := rest, reserve := s.liveInBlock b } : Integrity) =
        { (s.setBlockState b .closing).integrity with retireQueue := rest, reserve := s.liveInBlock b } := rfl
  have hEq : s.enterClosing b rest =
      { (if (s.withdrawn b rest).pooled < s.pooled then (s.withdrawn b rest).lowWaterTest else s.withdrawn b rest) with
        integrity := (s.enterClosing b rest).integrity } := rfl
  rw [hEq, enterClosing_integrity, hIntegrity]

/-- The block that has entered CLOSING is in progress. -/
theorem enterClosing_some {s : State} (hNone : s.inProgress = none) {b : Nat} (hlt : b < 16) (rest : List Nat) :
    (s.enterClosing b rest).inProgress = some b := by
  have hProgress := enterClosing_inProgress hNone hlt rest
  cases hp : (s.enterClosing b rest).inProgress with
  | none => exact absurd (inProgress_eq_none_iff.1 hp b) (by rw [hProgress, decide_eq_true rfl]; nofun)
  | some c =>
    have hc := inProgress_of_some hp
    rw [hProgress] at hc
    rw [of_decide_eq_true hc]

theorem withdrawn_alike (s : State) (b : Nat) (rest : List Nat) : Alike s (s.withdrawn b rest) := .of_sessions rfl rfl rfl

/-- What an entry to CLOSING leaves before the tests for the block. -/
theorem enterClosing_parts (s : State) (b : Nat) (rest : List Nat) :
    (s.enterClosing b rest).journal = { s.journal with pool := s.journal.pool.filter fun n => blockOf n ≠ b } ∧
    s.enterClosing b rest = { s with
      journal := (s.enterClosing b rest).journal, integrity := (s.enterClosing b rest).integrity
      engine := (s.enterClosing b rest).engine, notices := (s.enterClosing b rest).notices, links := (s.enterClosing b rest).links } ∧
    ((s.enterClosing b rest).pooled < s.pooled → LowWater s (s.enterClosing b rest) (s.enterClosing b rest).pooled) ∧
    ((s.enterClosing b rest).pooled = s.pooled → (s.enterClosing b rest).engine = s.engine ∧
      (s.enterClosing b rest).notices = s.notices ∧ (s.enterClosing b rest).links = s.links) := by
  have hPooled : (s.enterClosing b rest).pooled = (s.withdrawn b rest).pooled := congrArg List.length (enterClosing_pool s b rest)
  rw [hPooled]
  rw [enterClosing_eq]
  by_cases hFall : (s.withdrawn b rest).pooled < s.pooled
  · rw [if_pos hFall]
    have hLow := lowWaterTest_eq (s.withdrawn b rest)
    refine ⟨(congrArg State.journal hLow).trans rfl, ?_, fun _ => (lowWater_of_test (withdrawn_alike s b rest) rfl rfl rfl).congr rfl rfl rfl,
      fun h => absurd h (Nat.ne_of_lt hFall)⟩
    rw [hLow]
    rfl
  · rw [if_neg hFall]
    exact ⟨rfl, rfl, fun h => absurd h hFall, fun _ => ⟨rfl, rfl, rfl⟩⟩

/-- R165, R166, R169: the head of the queue enters CLOSING, and the tests for it are made. -/
theorem entersClosing_of_due {s : State} (hDue : s.closingDue = true) {b : Nat} (hlt : b < 16) (rest : List Nat) :
    EntersClosing s (s.enterClosing b rest).testProgress b rest := by
  obtain ⟨hReady, hNone, -⟩ := closingDue_iff.1 hDue
  obtain ⟨hJournal, hFrame, hLow, hSame⟩ := enterClosing_parts s b rest
  have hSome := enterClosing_some hNone hlt rest
  have hState : (s.enterClosing b rest).engine.state = .ready := by simpa using hReady
  have hIntegrity := enterClosing_integrity s b rest
  have hReserve : (s.enterClosing b rest).integrity.reserve = s.liveInBlock b := by rw [hIntegrity]
  have hBlock : ∀ c, (s.enterClosing b rest).block c = if c = b ∧ b < 16 then { s.block b with state := .closing } else s.block c :=
    fun c => enterClosing_block s b c rest
  have hSessions : (s.enterClosing b rest).sessions = s.sessions := (enterClosing_frame s b rest).1
  obtain ⟨-, -, tJournal, tEngine, -⟩ := testProgress_frame (s.enterClosing b rest)
  have hTest := testProgress_eq (s.enterClosing b rest)
  have hPooled : (s.enterClosing b rest).testProgress.pooled = (s.enterClosing b rest).pooled := congrArg (fun j => j.pool.length) tJournal
  have hTold : ((0 < s.liveInBlock b → (s.enterClosing b rest).testProgress.notices = (s.enterClosing b rest).notices ∧
        (s.enterClosing b rest).testProgress.links = (s.enterClosing b rest).links) ∧
      (s.liveInBlock b = 0 →
        (s.enterClosing b rest).testProgress.notices = ((s.enterClosing b rest).raiseBoth .blockRetired (some (wordOf b))).notices ∧
        (s.enterClosing b rest).testProgress.links = ((s.enterClosing b rest).raiseBoth .blockRetired (some (wordOf b))).links)) ∧
      (s.enterClosing b rest).testProgress.integrity = { s.integrity with
        blocks := (s.enterClosing b rest).testProgress.integrity.blocks, retireQueue := rest, reserve := s.liveInBlock b } ∧
      ∀ c, (s.enterClosing b rest).testProgress.block c = if c = b then { s.block b with
        state := if s.liveInBlock b = 0 then .retired
          else if s.liveInBlock b ≤ (s.enterClosing b rest).pooled then .moving else .closing } else s.block c := by
    have hHere : (s.enterClosing b rest).block b = { s.block b with state := .closing } := by rw [hBlock, if_pos ⟨rfl, hlt⟩]
    have hThere : ∀ c, c ≠ b → (s.enterClosing b rest).block c = s.block c := fun c hc => by rw [hBlock, if_neg fun h => hc h.1]
    rcases testProgress_of_some hState hSome with ⟨h0, ht⟩ | ⟨hPos, ht⟩
    · rw [hReserve] at h0
      rw [ht, retire_integrity]
      refine ⟨⟨fun hLive => absurd h0 (Nat.ne_of_gt hLive), fun _ => retire_told _ b⟩,
        ?_, fun c => ?_⟩
      · rw [State.setBlockState, hIntegrity, h0]
        rfl
      · rw [retire_block, hHere, if_pos h0]
        by_cases hc : c = b
        · rw [if_pos ⟨hc, hlt⟩, if_pos hc]
        · rw [if_neg fun h => hc h.1, if_neg hc, hThere c hc]
    · rw [hReserve] at hPos ht
      rw [ht]
      refine ⟨⟨fun _ => ⟨rfl, rfl⟩, fun h0 => absurd h0 (Nat.ne_of_gt hPos)⟩, ?_, fun c => ?_⟩
      · rw [State.setBlockState, hIntegrity]
        rfl
      · rw [setBlockState_block, hHere, if_neg (Nat.ne_of_gt hPos)]
        by_cases hc : c = b
        · rw [if_pos ⟨hc, hlt⟩, if_pos hc]
        · rw [if_neg fun h => hc h.1, if_neg hc, hThere c hc]
  obtain ⟨hTold, hAfter, hBlocks⟩ := hTold
  refine ⟨tJournal.trans hJournal, hAfter, ?_, fun c hc => ?_, ?_, s.enterClosing b rest, hSessions, tEngine, fun hFall => ?_, fun hEq => ?_, hTold⟩
  · rw [hBlocks, if_pos rfl, hPooled]
  · rw [hBlocks, if_neg hc]
  · rw [hTest, hFrame]
  · rw [hPooled] at hFall ⊢
    exact hLow hFall
  · rw [hPooled] at hEq
    exact hSame hEq

end Sys2Proof.Machine
end

section
/-! PROOFS. The arbiter's choice and the start of a grant (R130, R131, R165). -/

-- The proofs are checked one after the other: run at once, their threads would exceed the memory bound of the check.
set_option Elab.async false

namespace Sys2Proof.Machine

/-! The choice -/

/-- The places in their fixed order (R130). -/
def Place.number : Place → Nat
  | .portA => 1 | .portB => 2 | .service => 3 | .sweeper => 4 | .relocator => 5 | .initialiser => 6

/-- How far behind the pointer a place stands. -/
def Place.behind (pointer q : Place) : Nat := (q.number + 11 - pointer.number) % 6

theorem rotation_pairwise (p : Place) : p.rotation.Pairwise fun a b => p.behind a < p.behind b := by
  cases p <;> decide

theorem mem_rotation (p q : Place) : q ∈ p.rotation := by
  cases p <;> cases q <;> decide

/-- The first of a list in increasing rank that passes a test is the one of least rank that passes it. -/
theorem find?_of_pairwise {α : Type} {rank : α → Nat} {f : α → Bool} {l : List α} (hl : l.Pairwise fun a b => rank a < rank b)
    (hAll : ∀ x, x ∈ l) (x : α) : l.find? f = some x ↔ f x = true ∧ ∀ y, rank y < rank x → f y = false := by
  constructor
  · intro h
    obtain ⟨hx, before, after, rfl, hBefore⟩ := List.find?_eq_some_iff_append.1 h
    refine ⟨hx, fun y hy => ?_⟩
    obtain ⟨-, hRest, -⟩ := List.pairwise_append.1 hl
    rcases List.mem_append.1 (hAll y) with hMem | hMem
    · exact Bool.not_eq_true' _ ▸ hBefore y hMem
    · rcases List.mem_cons.1 hMem with rfl | hMem
      · exact absurd hy (Nat.lt_irrefl _)
      · exact absurd hy (Nat.lt_asymm ((List.pairwise_cons.1 hRest).1 y hMem))
  · rintro ⟨hx, hLeast⟩
    obtain ⟨before, after, rfl⟩ := List.append_of_mem (hAll x)
    refine List.find?_eq_some_iff_append.2 ⟨hx, before, after, rfl, fun y hy => ?_⟩
    rw [hLeast y ((List.pairwise_append.1 hl).2.2 y hy x List.mem_cons_self)]
    rfl

/-- The places that have work, as the chapters give it. -/
def State.Works (s : State) : Place → Prop
  | .portA => (s.link .a).requests ≠ []
  | .portB => (s.link .b).requests ≠ []
  | .service => s.service.inProgress ≠ none
  | .sweeper => s.sweeper.pending = true ∧ s.engine.state ≠ .initializing ∧
      (s.condition s.sweeper.position = .live ∨ s.arbiter.sweepRequest = true)
  | .relocator => s.engine.state = .ready ∧ ∃ b, (s.block b).state = .moving ∧ 0 < s.liveInBlock b
  | .initialiser => s.engine.state = .initializing ∧ s.engine.initPos < 1024 ∧ (s.block (s.engine.initPos / 64)).state ≠ .retired

theorem lowestLive_isSome_iff {s : State} {b : Nat} : (s.lowestLive b).isSome = true ↔ 0 < s.liveInBlock b := by
  rw [State.lowestLive, State.liveInBlock, Option.isSome_map, List.find?_isSome, List.countP_pos_iff]

theorem not_isEmpty_iff {α : Type} (l : List α) : (!l.isEmpty) = true ↔ l ≠ [] := by
  cases l <;> simp

theorem hasWork_iff {s : State} (h : RetirementLaw s) (q : Place) : s.hasWork q = true ↔ s.Works q := by
  cases q with
  | portA => exact not_isEmpty_iff _
  | portB => exact not_isEmpty_iff _
  | service => exact Option.isSome_iff_ne_none
  | sweeper =>
    simp only [State.hasWork, State.Works, State.running, Bool.and_eq_true, Bool.or_eq_true, decide_eq_true_eq, and_assoc]
  | relocator =>
    simp only [State.hasWork, State.Works, Bool.and_eq_true, decide_eq_true_eq]
    refine and_congr_right fun _ => ?_
    cases hp : s.inProgress with
    | none =>
      refine iff_of_false (by nofun) fun ⟨b, hb, _⟩ => ?_
      have := inProgress_eq_none_iff.1 hp b
      rw [hb] at this
      cases this
    | some c =>
      simp only [Bool.and_eq_true, decide_eq_true_eq, lowestLive_isSome_iff]
      refine ⟨fun hc => ⟨c, hc⟩, fun ⟨b, hb, hLive⟩ => ?_⟩
      have hSome := h.inProgress_eq (b := b) (by rw [hb]; rfl)
      obtain rfl := Option.some.inj (hp.symm.trans hSome)
      exact ⟨hb, hLive⟩
  | initialiser =>
    simp only [State.hasWork, State.Works, State.blockRetired, Bool.and_eq_true, decide_eq_true_eq, Bool.not_eq_true', decide_eq_false_iff_not,
      and_assoc]
    rfl

/-- A scrub grant is due and comes first (R131). -/
def State.ScrubFirst (s : State) : Prop :=
  s.arbiter.scrubDue = true ∧ s.engine.state ≠ .initializing ∧ ¬(s.arbiter.lastWasScrub = true ∧ ∃ q, s.Works q)

theorem rotation_isSome_iff {s : State} (h : RetirementLaw s) :
    (s.arbiter.pointer.rotation.find? s.hasWork).isSome = true ↔ ∃ q, s.Works q := by
  rw [List.find?_isSome]
  exact ⟨fun ⟨q, _, hq⟩ => ⟨q, (hasWork_iff h q).1 hq⟩, fun ⟨q, hq⟩ => ⟨q, mem_rotation _ _, (hasWork_iff h q).2 hq⟩⟩

theorem nextGrant_eq {s : State} (h : RetirementLaw s) :
    (s.ScrubFirst → s.nextGrant = some .scrubber) ∧
    (¬s.ScrubFirst → s.nextGrant = (s.arbiter.pointer.rotation.find? s.hasWork).map .place) := by
  have hFirst : (s.arbiter.scrubDue && s.running && !(s.arbiter.lastWasScrub && (s.arbiter.pointer.rotation.find? s.hasWork).isSome)) = true ↔
      s.ScrubFirst := by
    rw [State.ScrubFirst, ← rotation_isSome_iff h, ← Bool.and_eq_true, Bool.not_eq_true, ← Bool.not_eq_true', Bool.and_eq_true,
      Bool.and_eq_true, and_assoc, State.running, decide_eq_true_eq]
  unfold State.nextGrant
  exact ⟨fun hc => if_pos (hFirst.2 hc), fun hc => if_neg fun he => hc (hFirst.1 he)⟩

theorem nextGrant_scrubber_iff {s : State} (h : RetirementLaw s) : s.nextGrant = some .scrubber ↔ s.ScrubFirst := by
  obtain ⟨hFirst, hElse⟩ := nextGrant_eq h
  refine ⟨fun hNext => ?_, hFirst⟩
  refine Classical.byContradiction fun hc => ?_
  rw [hElse hc] at hNext
  obtain ⟨q, -, hq⟩ := Option.map_eq_some_iff.1 hNext
  cases hq

theorem nextGrant_place_iff {s : State} (h : RetirementLaw s) (q : Place) : s.nextGrant = some (.place q) ↔
    ¬s.ScrubFirst ∧ s.Works q ∧ ∀ q', s.arbiter.pointer.behind q' < s.arbiter.pointer.behind q → ¬s.Works q' := by
  obtain ⟨hFirst, hElse⟩ := nextGrant_eq h
  have hFind : (s.arbiter.pointer.rotation.find? s.hasWork).map Grantee.place = some (.place q) ↔
      s.Works q ∧ ∀ q', s.arbiter.pointer.behind q' < s.arbiter.pointer.behind q → ¬s.Works q' := by
    rw [Option.map_eq_some_iff]
    refine ⟨fun ⟨q', hq', he⟩ => ?_, fun ⟨hq, hLeast⟩ => ⟨q, ?_, rfl⟩⟩
    · obtain rfl := Grantee.place.inj he
      obtain ⟨hWork, hLeast⟩ := (find?_of_pairwise (rotation_pairwise _) (mem_rotation _) q').1 hq'
      refine ⟨(hasWork_iff h q').1 hWork, fun y hy hc => ?_⟩
      have := (hasWork_iff h y).2 hc
      rw [hLeast y hy] at this
      cases this
    · refine (find?_of_pairwise (rotation_pairwise _) (mem_rotation _) q).2 ⟨(hasWork_iff h q).2 hq, fun y hy => ?_⟩
      exact Bool.eq_false_iff.2 fun hc => hLeast y hy ((hasWork_iff h y).1 hc)
  by_cases hc : s.ScrubFirst
  · rw [hFirst hc]
    exact iff_of_false (by nofun) fun hn => hn.1 hc
  · rw [hElse hc, hFind]
    exact (and_iff_right hc).symm

theorem grantedRequest_iff {s : State} {p : Port} {r : Request} : s.grantedRequest p = some r ↔
    s.nextGrant = some (.place (portPlace p)) ∧ ∃ rest, (s.link p).requests = r :: rest := by
  unfold State.grantedRequest
  by_cases h : s.nextGrant = some (.place (portPlace p))
  · rw [if_pos h, List.head?_eq_some_iff]
    exact (and_iff_right h).symm
  · rw [if_neg h]
    exact iff_of_false (by nofun) fun hn => h hn.1

theorem grantedService_iff {s : State} {g : GrantRequest} : s.grantedService = some g ↔
    s.nextGrant = some (.place .service) ∧ s.service.inProgress = some g := by
  unfold State.grantedService
  by_cases h : s.nextGrant = some (.place .service)
  · rw [if_pos h]
    exact (and_iff_right h).symm
  · rw [if_neg h]
    exact iff_of_false (by nofun) fun hn => h hn.1

/-! A block that has left the retire queue -/

/-- Block `b` has left the queue for its retirement, with no slot in the pool. -/
structure Leaves (b : Nat) (s : State) : Prop where
  law : RetirementLaw s
  queue : b ∉ s.integrity.retireQueue
  state : (s.block b).state ≠ .inService
  pool : ∀ n ∈ s.journal.pool, blockOf n ≠ b

theorem Leaves.testProgress {b : Nat} {s : State} (h : Leaves b s) : Leaves b s.testProgress := by
  obtain ⟨-, -, hJournal, -, -, hQueue, -⟩ := testProgress_frame s
  refine ⟨h.law.testProgress, by rw [hQueue]; exact h.queue, ?_, by rw [hJournal]; exact h.pool⟩
  rcases testProgress_cases s with ⟨ht, -⟩ | ⟨c, -, -, -, ht⟩ | ⟨c, -, -, -, ht⟩
  · rw [ht]
    exact h.state
  · rw [ht, retire_block]
    split
    · nofun
    · exact h.state
  · rw [ht, setBlockState_block]
    split
    · exact not_inService_of_inProgress (movingOrClosing_inProgress _)
    · exact h.state

theorem Leaves.enterClosing {b : Nat} {s : State} (h : Leaves b s) (hNone : s.inProgress = none) {c : Nat} {rest : List Nat}
    (hQueue : s.integrity.retireQueue = c :: rest) : Leaves b (s.enterClosing c rest) := by
  refine ⟨h.law.enterClosing hNone hQueue, fun hb => h.queue ?_, ?_, fun n hn => h.pool n ?_⟩
  · rw [enterClosing_queue] at hb
    rw [hQueue]
    exact List.mem_cons_of_mem _ hb
  · rw [enterClosing_block]
    split
    · nofun
    · exact h.state
  · rw [enterClosing_pool] at hn
    exact (List.mem_filter.1 hn).1

theorem leaves_enterClosing {s : State} (h : RetirementLaw s) (hNone : s.inProgress = none) {b : Nat} {rest : List Nat}
    (hQueue : s.integrity.retireQueue = b :: rest) : Leaves b (s.enterClosing b rest) := by
  have hNodup := h.2.2.1
  obtain ⟨hlt, -⟩ := h.2.2.2.1 b (by rw [hQueue]; exact List.mem_cons_self)
  rw [hQueue] at hNodup
  refine ⟨h.enterClosing hNone hQueue, by rw [enterClosing_queue]; exact (List.nodup_cons.1 hNodup).1, ?_, fun n hn => ?_⟩
  · rw [enterClosing_block, if_pos ⟨rfl, hlt⟩]
    nofun
  · rw [enterClosing_pool] at hn
    exact of_decide_eq_true (List.mem_filter.1 hn).2

/-- The head of the retire queue leaves it when its entry to CLOSING is due (R165). -/
theorem leaves_enterIfDue {s : State} (h : RetirementLaw s) (hDue : s.closingDue = true) {b : Nat} {rest : List Nat}
    (hQueue : s.integrity.retireQueue = b :: rest) : Leaves b s.enterIfDue := by
  rw [enterIfDue_of_due hDue hQueue]
  exact (settleWithin_induction (P := Leaves b) (Q := fun _ => True) (fun _ ht => ⟨ht.testProgress, trivial⟩)
    (fun _ _ _ ht _ hNone hq => ht.enterClosing hNone hq) _ (leaves_enterClosing h (closingDue_iff.1 hDue).2.1 hQueue)).1

/-- Settles O25, by the arbiter's choice, the frame of a grant's start and the entry to CLOSING. -/
theorem grantStartMovesThePointer : Obligations.GrantStartMovesThePointer := by
  unfold Obligations.GrantStartMovesThePointer
  refine ⟨fun s h => ⟨?_, fun q => ?_, fun p r => ?_, fun g => grantedService_iff, closingDue_iff⟩, fun p s => ?_, fun s => ?_⟩
  · exact nextGrant_scrubber_iff h
  · exact nextGrant_place_iff h q
  · cases p <;> exact grantedRequest_iff
  · obtain ⟨hSessions, hStore, hIndex, hOrphans, -, -, -, hEngine, hSweeper, hService, hFaults, hReset, -⟩ := grantStart_frame s p
    refine ⟨(enterIfDue_frame _).2.1, hSessions, hStore, hIndex, hOrphans, hService, hFaults, hReset, hSweeper, hEngine,
      grantStart_of_not_due s p, fun b rest h hDue hQueue => ?_⟩
    obtain ⟨-, hNot, hState, hPool⟩ := leaves_enterIfDue
      (s := s.holdNotices.setArbiter { s.arbiter with pointer := portPlace p, lastWasScrub := false }) h hDue hQueue
    exact ⟨hNot, hState, hPool⟩
  · refine ⟨fun q => ⟨(enterIfDue_frame _).2.1, rfl⟩, (enterIfDue_frame _).2.1, rfl, enterIfDue_of_not_due, fun b rest h hDue hQueue => ?_⟩
    obtain ⟨hlt, -⟩ := h.2.2.2.1 b (by rw [hQueue]; exact List.mem_cons_self)
    refine ⟨_, entersClosing_of_due hDue hlt rest, (h.enterClosing (closingDue_iff.1 hDue).2.1 hQueue).testProgress, ?_⟩
    rw [enterIfDue_of_due hDue hQueue, settle_eq]

end Sys2Proof.Machine
end

section
/-! PROOFS. An entry removed and an entry created: CLOSE, RESOLVE and OPEN of a new key (R32, R39, R93). -/

-- The proofs are checked one after the other: run at once, their threads would exceed the memory bound of the check.
set_option Elab.async false

namespace Sys2Proof.Machine

/-! The removal of an entry (R14, R39, R46, R93) -/

theorem unlink_freeWrite (s : State) (n : Nat) : (s.freeWrite n).unlink n = { s with
    journal := { s.journal with store := SlotMap.insert n freeSlot s.journal.store, index := SlotMap.erase n s.journal.index }
    arbiter := s.arbiterWithout n } := rfl

theorem freed_eq_withoutEntry (s : State) (n : Nat) : ((s.freeWrite n).unlink n).freeSlotOf n = s.withoutEntry n := by
  have hHome : ((s.freeWrite n).unlink n).block (blockOf n) = s.block (blockOf n) := rfl
  unfold State.freeSlotOf State.withoutEntry
  rw [hHome]
  dsimp only
  by_cases hIn : (s.block (blockOf n)).state = .inService
  · rw [if_pos hIn, if_pos hIn, if_pos hIn, if_neg (by rw [hIn]; nofun), State.poolSlot, rearmTest_eq, unlink_freeWrite]
    show _ = _
    have hLength : (s.journal.pool ++ [n]).length = s.journal.pool.length + 1 := List.length_append
    rw [← hLength]
    rfl
  · rw [if_neg hIn, if_neg hIn, if_neg hIn, unlink_freeWrite]
    by_cases hProgress : (s.block (blockOf n)).state.inProgress = true
    · rw [if_pos hProgress, if_pos hProgress]
      rfl
    · rw [if_neg hProgress, if_neg hProgress]

theorem removeEntry_eq_settle (s : State) (n : Nat) : s.removeEntry n = (s.withoutEntry n).settle := by
  rw [State.removeEntry, freed_eq_withoutEntry]

theorem withoutEntry_inProgress (s : State) (n : Nat) : (s.withoutEntry n).inProgress = s.inProgress := inProgress_of_blocks rfl

/-- What the tests tell when no further block waits: nothing, or that the block in progress has lost its last entry (R169). -/
theorem settle_told {s t : State} (h : Alike s t) (hEmpty : t.integrity.retireQueue = []) :
    ((t.engine.state ≠ .ready ∨ t.inProgress = none ∨ 0 < t.integrity.reserve) →
      t.settle.notices = s.notices ∧ t.settle.links = s.links) ∧
    (∀ b, t.engine.state = .ready → t.inProgress = some b → t.integrity.reserve = 0 → (t.settle.block b).state = .retired ∧
      t.settle.notices = (s.raiseBoth .blockRetired (some (wordOf b))).notices ∧
      t.settle.links = (s.raiseBoth .blockRetired (some (wordOf b))).links) ∧
    t.settle.journal = t.journal ∧ t.settle.integrity.reserve = t.integrity.reserve ∧ t.settle.engine = t.engine := by
  obtain ⟨-, -, hJournal, hEngine, -⟩ := testProgress_frame t
  rw [settle_of_empty hEmpty]
  refine ⟨fun hKeep => ?_, fun b hReady hb h0 => ?_, hJournal, ?_, hEngine⟩
  · rcases testProgress_cases t with ⟨ht, -⟩ | ⟨b, hReady, hb, h0, -⟩ | ⟨b, -, -, -, ht⟩
    · rw [ht]
      exact ⟨h.notices, h.links⟩
    · rcases hKeep with hKeep | hKeep | hKeep
      · exact absurd hReady hKeep
      · rw [hb] at hKeep
        cases hKeep
      · exact absurd h0 (Nat.ne_of_gt hKeep)
    · rw [ht]
      exact ⟨h.notices, h.links⟩
  · rcases testProgress_of_some hReady hb with ⟨-, ht⟩ | ⟨hPos, -⟩
    · obtain ⟨hNotices, hLinks⟩ := retire_told t b
      rw [ht, hNotices, hLinks, retire_block, if_pos ⟨rfl, lt_of_inProgress (inProgress_of_some hb)⟩, raiseBoth_alike h]
      exact ⟨rfl, rfl, rfl⟩
    · exact absurd h0 (Nat.ne_of_gt hPos)
  · rcases testProgress_cases t with ⟨ht, -⟩ | ⟨b, -, -, h0, ht⟩ | ⟨b, -, -, -, ht⟩
    · rw [ht]
    · rw [ht, retire_integrity, h0]
    · rw [ht]
      rfl

/-- A removal leaves what `EntryRemoved` says. -/
theorem entryRemoved_removeEntry (v : State) (n : Nat) : EntryRemoved v (v.removeEntry n) n := by
  rw [removeEntry_eq_settle]
  obtain ⟨hSessions, hArbiter, hStore, hIndex, hOrphans, hStamp, hGen, hComp, hEngine, -, -, hSweeper, -, -, -, hService, hFaults, hReset,
    hFree, hPending⟩ := settle_frame (v.withoutEntry n)
  have hStored : ∀ m, (v.withoutEntry n).settle.stored m = if m = n then freeSlot else v.stored m :=
    stored_of_insert (s := v) (hStore.trans rfl) (hFree.trans rfl)
  have hAssoc : ∀ m, (v.withoutEntry n).settle.assoc m = SlotMap.find m (SlotMap.erase n v.journal.index) := fun m => by
    rw [State.assoc, hIndex]
    rfl
  refine ⟨rfl, by rw [hStored, if_pos rfl], fun hw => ?_, fun m hm => ⟨by rw [hStored, if_neg hm], ?_⟩, hOrphans, hStamp, hGen, hComp,
    hSessions, hSweeper, hService, hFaults, hReset, hArbiter, hEngine, hFree, hPending, fun hEmpty => ?_⟩
  · rw [hAssoc, SlotMap.find_erase hw, if_pos rfl]
  · rw [hAssoc]
    exact SlotMap.find_erase_other hm _
  · obtain ⟨hKeep, hRetired, hJournal, hReserve, hEngine'⟩ := settle_told (s := v) (t := v.withoutEntry n) (.of_sessions rfl rfl rfl) hEmpty
    rw [withoutEntry_inProgress] at hKeep hRetired
    exact ⟨congrArg Journal.pool hJournal, hReserve, hEngine', hKeep, hRetired⟩

/-! The drain that a lowered count completes (R41, R49, R64) -/

theorem testDrain_setSession (s : State) (p : Port) (x : Session) : (s.setSession p x).testDrain p =
    if x.state = .draining ∧ x.holdings = 0 ∧ x.adoptions = 0
      then (s.setSession p (ended x .detached)).raise p.other .peerDetached (some (x.epoch.setWidth 32)) else s.setSession p x := by
  have hSession : (s.setSession p x).session p = x := PerPort.get_set_same ..
  have hSet : (s.setSession p x).setSession p (ended x .detached) = s.setSession p (ended x .detached) :=
    congrArg (fun l => ({ s with sessions := l } : State)) (PerPort.set_set ..)
  unfold State.testDrain
  rw [hSession, State.detachGracefully, hSession, ← hSet]
  rfl

theorem lowerHoldings_cases (s : State) (p : Port) :
    ((s.session p).state = .draining ∧ (s.session p).holdings ≤ 1 ∧ (s.session p).adoptions = 0 →
      s.lowerHoldings p = (s.setSession p (ended (s.session p) .detached)).raise p.other .peerDetached
        (some ((s.session p).epoch.setWidth 32))) ∧
    (¬((s.session p).state = .draining ∧ (s.session p).holdings ≤ 1 ∧ (s.session p).adoptions = 0) →
      s.lowerHoldings p = s.setSession p { s.session p with holdings := (s.session p).holdings - 1 }) := by
  rw [State.lowerHoldings, testDrain_setSession]
  refine ⟨fun h => ?_, fun h => ?_⟩
  · rw [if_pos ⟨h.1, Nat.sub_eq_zero_of_le h.2.1, h.2.2⟩]
    rfl
  · rw [if_neg fun hc => h ⟨hc.1, Nat.le_of_sub_eq_zero hc.2.1, hc.2.2⟩]

theorem lowerAdoptions_cases (s : State) (p : Port) :
    ((s.session p).state = .draining ∧ (s.session p).adoptions ≤ 1 ∧ (s.session p).holdings = 0 →
      s.lowerAdoptions p = (s.setSession p (ended (s.session p) .detached)).raise p.other .peerDetached
        (some ((s.session p).epoch.setWidth 32))) ∧
    (¬((s.session p).state = .draining ∧ (s.session p).adoptions ≤ 1 ∧ (s.session p).holdings = 0) →
      s.lowerAdoptions p = s.setSession p { s.session p with adoptions := (s.session p).adoptions - 1 }) := by
  rw [State.lowerAdoptions, testDrain_setSession]
  refine ⟨fun h => ?_, fun h => ?_⟩
  · rw [if_pos ⟨h.1, h.2.2, Nat.sub_eq_zero_of_le h.2.1⟩]
    rfl
  · rw [if_neg fun hc => h ⟨hc.1, Nat.le_of_sub_eq_zero hc.2.2, hc.2.1⟩]

/-- Settles O39, by the count of the hold and what is left without it. -/
theorem closeLowersAHold : Obligations.CloseLowersAHold := by
  unfold Obligations.CloseLowersAHold
  intro p r k w s n e h hx hk v he hp
  have hExec := exec_of_executes hx rfl w []
  have hRun : PeerRequest.run p w [] (.closeIntent k) (s.grantStart p) = v.closeHold p k n e h := (runClose_of_entry hk he).2 h hp
  rw [hRun, State.closeHold] at hExec
  refine ⟨fun hc => ?_, fun hc ho => ?_, fun hc ho hLost => ?_, fun hc ho hLost => ?_, fun y => lowerHoldings_cases y p⟩
  · rw [if_pos hc] at hExec
    exact hExec
  · rw [if_neg (Nat.not_lt.2 hc), if_pos ho] at hExec
    exact hExec
  · rw [if_neg (Nat.not_lt.2 hc), if_neg (by rw [ho]; nofun), if_pos hLost] at hExec
    exact hExec
  · rw [if_neg (Nat.not_lt.2 hc), if_neg (by rw [ho]; nofun), if_neg (by rw [hLost]; nofun)] at hExec
    obtain ⟨-, -, -, -, -, -, -, -, hSessions, -⟩ := entryRemoved_removeEntry v n
    exact ⟨v.removeEntry n, entryRemoved_removeEntry v n, hSessions, hExec⟩

/-! RESOLVE (R92, R93) -/

/-- Settles O43, by whose adoption the entry is. -/
theorem resolveRemovesAnAdoptedEntry : Obligations.ResolveRemovesAnAdoptedEntry := by
  unfold Obligations.ResolveRemovesAnAdoptedEntry
  intro p r k w s n e hx hk v own he
  have hExec := exec_of_executes hx rfl w []
  have hRun : PeerRequest.run p w [] (.resolve k) (s.grantStart p) = if v.adoptedBy p e = true
      then ({ status := .released, payload := stampWords e.stamp }, (v.removeEntry n).lowerAdoptions p)
      else ({ status := .notAdopter }, v) := by
    show (s.grantStart p).runResolve p k w = _
    unfold State.runResolve
    rw [grantStart_lookup, hk]
    dsimp only
    rw [show ((s.grantStart p).readSlot n w).entryAt n = some e from he]
  rw [hRun] at hExec
  refine ⟨fun hOwn => ?_, fun hNot => ?_, fun y => lowerAdoptions_cases y p⟩
  · rw [if_pos (adoptedBy_iff.2 hOwn)] at hExec
    obtain ⟨-, -, -, -, -, -, -, -, hSessions, -⟩ := entryRemoved_removeEntry v n
    exact ⟨v.removeEntry n, entryRemoved_removeEntry v n, hSessions, hExec⟩
  · rw [if_neg fun hc => hNot (adoptedBy_iff.1 hc)] at hExec
    exact hExec

end Sys2Proof.Machine
end

section
/-! PROOFS. OPEN of a key without an entry: the new entry (R5, R26, R28, R32, R36, R45). -/

-- The proofs are checked one after the other: run at once, their threads would exceed the memory bound of the check.
set_option Elab.async false

namespace Sys2Proof.Machine

/-- A new entry with the port's holdings raised, before the low-water test and the tests for a retirement. -/
def State.counted (v : State) (p : Port) (k : RegionKey) (note : List Word) (n : Nat) (rest : List Nat) : State :=
  (v.created p k note n rest).raiseHoldings p

theorem counted_eq (v : State) (p : Port) (k : RegionKey) (note : List Word) (n : Nat) (rest : List Nat) :
    v.counted p k note n rest = { v with
      journal := (v.created p k note n rest).journal
      sessions := v.sessions.set p { v.session p with holdings := (v.session p).holdings + 1 } } := rfl

/-- The notice unit finds a counted entry's state as it was: a count is no part of a session's being open. -/
theorem counted_alike (v : State) (p : Port) (k : RegionKey) (note : List Word) (n : Nat) (rest : List Nat) :
    Alike v (v.counted p k note n rest) := by
  have hSession : ∀ q, (v.counted p k note n rest).session q =
      if q = p then { v.session p with holdings := (v.session p).holdings + 1 } else v.session q := fun q => by
    rcases Port.eq_or_other p q with rfl | rfl
    · rw [if_pos rfl]
      exact PerPort.get_set_same ..
    · rw [if_neg (Port.other_ne p)]
      exact PerPort.get_set_other ..
  refine ⟨rfl, fun q => ?_, fun q => ?_, rfl⟩
  · rw [State.isOpen, hSession]
    split
    · next h => rw [h]; rfl
    · rfl
  · rw [hSession]
    split
    · next h => rw [h]
    · rfl

/-- OPEN makes a new entry in the head slot when the quota, the pool and the stamp allow. -/
theorem createEntry_of_room {v : State} {p : Port} {n : Nat} {rest : List Nat} (hQuota : (v.session p).holdings < v.settings.quota p)
    (hRoom : v.integrity.reserve < v.pooled) (hStamp : v.journal.stamp ≠ Config.stampMax) (hPool : v.journal.pool = n :: rest)
    (k : RegionKey) (note : List Word) : v.createEntry p k note =
      ({ status := .opened, payload := stampAndCount v.journal.stamp 1 }, (v.counted p k note n rest).lowWaterTest.settle) := by
  unfold State.createEntry
  rw [if_neg (Nat.not_le.2 hQuota), if_neg (Nat.not_le.2 hRoom), if_neg hStamp]
  dsimp only
  rw [hPool]
  rfl

theorem newBody_eq (p : Port) (epoch : Epoch) (stamp : Stamp) (note : List Word) : newBody p epoch stamp note = {
    state := .opened
    holdA := if p = .a then some ⟨1, epoch⟩ else none
    holdB := if p = .b then some ⟨1, epoch⟩ else none
    lostHolder := false, damaged := false, stamp := stamp, note := note, adopter := none } := by
  cases p <;> rfl

theorem newBody_summary (p : Port) (epoch : Epoch) (stamp : Stamp) (note : List Word) : (newBody p epoch stamp note).summary = {
    holdA := if p = .a then some epoch else none, holdB := if p = .b then some epoch else none, adopter := none } := by
  cases p <;> rfl

/-- What an OPEN that makes a new entry leaves in the journal, the session and the rest (R32). -/
theorem opened_leaves (v : State) (p : Port) (k : RegionKey) (note : List Word) (n : Nat) (rest : List Nat) :
    let e := newBody p (v.session p).epoch v.journal.stamp note
    let y := (v.counted p k note n rest).lowWaterTest.settle
    y.keyAt n = some k ∧ y.entryAt n = some e ∧ y.stored n = entrySlot k e ∧ y.assoc n = some { key := k, summary := e.summary } ∧
    (∀ m, m ≠ n → y.stored m = v.stored m ∧ y.assoc m = v.assoc m) ∧
    y.journal.stamp = v.journal.stamp + 1#64 ∧ y.journal.orphans = v.journal.orphans ∧
    y.journal.generation = v.journal.generation ∧ y.journal.compromised = v.journal.compromised ∧
    y.sessions = v.sessions.set p { v.session p with holdings := (v.session p).holdings + 1 } ∧
    y.engine.state = v.engine.state ∧ y.service = v.service ∧ y.faults = v.faults ∧ y.sweeper = v.sweeper ∧ y.arbiter = v.arbiter := by
  intro e y
  obtain ⟨hSessions, hArbiter, hStore, hIndex, hOrphans, hStamp, hGen, hComp, hEngine, -, -, hSweeper, -, -, -, hService, hFaults, -, hFree, -⟩ :=
    settle_frame (v.counted p k note n rest).lowWaterTest
  obtain ⟨lSessions, lArbiter, lJournal, lEngine, -, -, lSweeper, -, -, lService, lFaults, -, lFree, -⟩ :=
    lowWaterTest_frame (v.counted p k note n rest)
  rw [lJournal] at hStore hIndex hOrphans hStamp hGen hComp
  have hAssoc := assoc_insert (s := v) (t := y) hIndex
  have hStored := stored_of_insert (s := v) (t := y) hStore (hFree.trans lFree)
  have hAssocHere : y.assoc n = some { key := k, summary := e.summary } := by rw [hAssoc, if_pos rfl]
  have hStoredHere : y.stored n = entrySlot k e := by rw [hStored, if_pos rfl]
  refine ⟨by rw [State.keyAt, hAssocHere]; rfl, ?_, hStoredHere, hAssocHere, fun m hm => ⟨by rw [hStored, if_neg hm], by rw [hAssoc, if_neg hm]⟩,
    hStamp, hOrphans, hGen, hComp, hSessions.trans lSessions, hEngine.trans lEngine, hService.trans lService, hFaults.trans lFaults,
    hSweeper.trans lSweeper, hArbiter.trans lArbiter⟩
  refine entryAt_eq_some_iff.2 ⟨by rw [hAssocHere]; nofun, ?_⟩
  rw [hStoredHere]
  rfl

/-- With no block waiting the pool is what the taking of the head slot leaves, and the low-water test is made on it (R45). -/
theorem opened_tests {v : State} {p : Port} {n : Nat} {rest : List Nat} (hEmpty : v.integrity.retireQueue = []) (k : RegionKey)
    (note : List Word) :
    let y := (v.counted p k note n rest).lowWaterTest.settle
    y.journal.pool = rest ∧ (v.inProgress = none ∨ 0 < v.integrity.reserve → LowWater v y rest.length) := by
  intro y
  have hTest := lowWaterTest_eq (v.counted p k note n rest)
  obtain ⟨-, -, lJournal, -, -, -, -, lIntegrity, -⟩ := lowWaterTest_frame (v.counted p k note n rest)
  have hIntegrity : (v.counted p k note n rest).lowWaterTest.integrity = v.integrity := lIntegrity
  obtain ⟨hKeep, -, hJournal, -, hEngine⟩ := settle_told (.refl _) (by rw [hIntegrity, hEmpty])
  refine ⟨by rw [hJournal, lJournal]; rfl, fun hc => ?_⟩
  have hNone : (v.counted p k note n rest).lowWaterTest.inProgress = v.inProgress := inProgress_of_blocks (by rw [hIntegrity])
  obtain ⟨hNotices, hLinks⟩ := hKeep (.inr (by rw [hNone, hIntegrity]; exact hc))
  exact (lowWater_of_test (counted_alike v p k note n rest) rfl rfl rfl).congr hEngine hNotices hLinks

/-- Settles O36, by the tests of a new entry and what it leaves. -/
theorem openOfANewKeyCreatesAnEntry : Obligations.OpenOfANewKeyCreatesAnEntry := by
  unfold Obligations.OpenOfANewKeyCreatesAnEntry
  refine ⟨fun p r k note w s v h hReady ha hv => ?_, fun x => ⟨lowWater_of_test (.refl x) rfl rfl rfl, lowWaterTest_eq x⟩⟩
  have hRun : PeerRequest.run p w [] (.openIntent k note) (s.grantStart p) = v.createEntry p k note := by
    obtain ⟨hNone, hSome⟩ := runOpen_of_ready hReady ha k note w
    rcases hv with ⟨hk, rfl⟩ | ⟨n, hk, rfl, he⟩
    · exact hNone hk
    · exact (hSome n hk).1 he
  have hExec := exec_of_executes h rfl w []
  rw [hRun] at hExec
  refine ⟨fun hq => ?_, fun hq hFull => ?_, fun n rest hq hRoom hStamp hPool => ?_⟩
  · rw [State.createEntry, if_pos hq] at hExec
    exact hExec
  · rw [State.createEntry, if_neg (Nat.not_le.2 hq)] at hExec
    rcases hFull with hRoom | hStamp
    · rw [if_pos hRoom] at hExec
      exact hExec
    · rw [if_pos hStamp, ite_self] at hExec
      exact hExec
  · rw [createEntry_of_room hq hRoom hStamp hPool] at hExec
    obtain ⟨hKey, hEntry, hStored, hAssoc, hOther, hStampNext, hOrphans, hGen, hComp, hSessions, hEngine, hService, hFaults, hSweeper,
      hArbiter⟩ := opened_leaves v p k note n rest
    rw [newBody_eq] at hEntry
    rw [newBody_summary] at hAssoc
    rw [entrySlot, newBody_eq] at hStored
    exact ⟨_, hExec, hKey, hEntry, hStored, hAssoc, hOther, hStampNext, hOrphans, hGen, hComp,
      fun hEmpty => (opened_tests hEmpty k note).1, hSessions, hEngine, hService, hFaults, hSweeper, hArbiter,
      fun hEmpty => (opened_tests hEmpty k note).2⟩

end Sys2Proof.Machine
end

section
/-! PROOFS. The timers that run out: of a session, of the notice unit, of the scrubber and of the buckets (R57, R58, R64, R131, R144, R154). -/

-- The proofs are checked one after the other: run at once, their threads would exceed the memory bound of the check.
set_option Elab.async false

namespace Sys2Proof.Machine

/-- Settles O44, by the timer and the lapse mark. -/
theorem sessionTimersEndSessions : Obligations.SessionTimersEndSessions := by
  unfold Obligations.SessionTimersEndSessions
  intro p s
  have hEnding : (s.ending p .lapsed).session p = ended (s.session p) .lapsed := PerPort.get_set_same ..
  dsimp only [exec, execLapseTimerExpiry, execDrainTimerExpiry]
  refine ⟨fun ht hm => ?_, fun ht hm => ?_, fun ht => ?_, fun ht => ?_, fun ht => ?_⟩
  · obtain ⟨n, hn⟩ := Option.isSome_iff_exists.1 ht
    rw [hn, State.lapse, if_neg (by rw [hm]; nofun), leaveTo_eq_ending]
    dsimp only
    rw [hEnding]
  · obtain ⟨n, hn⟩ := Option.isSome_iff_exists.1 ht
    rw [hn, State.lapse, if_pos hm, State.fencePort, leaveTo_eq_ending]
    rfl
  · obtain ⟨n, hn⟩ := Option.isSome_iff_exists.1 ht
    rw [hn, leaveTo_eq_ending]
  · rw [ht]
  · rw [ht]

/-! The repeat timer (R144, R147, R148) -/

/-- How many frames the notice unit can send a port now. -/
def State.room (s : State) (p : Port) : Nat :=
  if s.isOpen p = true ∧ (s.link p).state = .up then 16 - (s.link p).outbound.length else 0

theorem room_pos_iff {s : State} {p : Port} : 0 < s.room p ↔ s.reaches p := by
  unfold State.room State.reaches
  by_cases h : s.isOpen p = true ∧ (s.link p).state = .up
  · rw [if_pos h, Nat.sub_pos_iff_lt]
    exact ⟨fun hl => ⟨h.1, h.2, hl⟩, fun hr => hr.2.2⟩
  · rw [if_neg h]
    exact iff_of_false (Nat.lt_irrefl 0) fun hr => h ⟨hr.1, hr.2.1⟩

/-- The kinds of a list that are sent to a port: those whose flag is set, while the queue has room. -/
def State.resent (s : State) (p : Port) (kinds : List NoticeKind) : List NoticeKind :=
  (kinds.filter fun k => ((s.notices.flags.get p).get k).isSome).take (s.room p)

/-- The frame of a kind whose flag is set, under the `i`-th serial from `c`. -/
def State.repeatFrame (s : State) (p : Port) (c : Byte) (x : NoticeKind × Nat) : OutFrame :=
  .notice x.1 (s.session p).epoch (c + BitVec.ofNat 8 x.2) ((s.notices.flags.get p).get x.1).join

/-- One notice sent leaves the port's flags and session, a place less, and the next serial. -/
theorem sendNotice_step {s : State} {p : Port} (h : s.reaches p) (k : NoticeKind) (w : Option Word) {t : State} (ht : t = s.sendNotice p k w) :
    t.notices.flags = s.notices.flags ∧ t.sessions = s.sessions ∧ t.room p + 1 = s.room p ∧
    t.link p = { s.link p with outbound := (s.link p).outbound ++ [.notice k (s.session p).epoch (s.notices.serials.get p) w] } ∧
    t.notices.serials.get p = s.notices.serials.get p + 1#8 := by
  rw [sendNotice_of_reached h] at ht
  have hSessions : t.sessions = s.sessions := by rw [ht]
  have hLink : t.link p = { s.link p with
      outbound := (s.link p).outbound ++ [.notice k (s.session p).epoch (s.notices.serials.get p) w] } := by
    rw [ht]
    exact PerPort.get_set_same ..
  refine ⟨by rw [ht], hSessions, ?_, hLink, by rw [ht]; exact PerPort.get_set_same ..⟩
  obtain ⟨hOpen, hUp, hRoom⟩ := h
  have hOpen' : t.isOpen p = true := (isOpen_of_sessions hSessions p).trans hOpen
  rw [State.room, State.room, hLink, if_pos ⟨hOpen', hUp⟩, if_pos ⟨hOpen, hUp⟩, List.length_append, List.length_singleton]
  omega

/-- The frames that one port is sent when the repeat timer runs out. -/
theorem resendAll_port (p : Port) (kinds : List NoticeKind) (s : State) (c : Byte) (i : Nat)
    (h : s.notices.serials.get p = c + BitVec.ofNat 8 i) :
    ((kinds.foldl (fun t k => t.resend p k) s).link p = { s.link p with
      outbound := (s.link p).outbound ++ ((s.resent p kinds).zipIdx i).map (s.repeatFrame p c) }) ∧
    (kinds.foldl (fun t k => t.resend p k) s).notices.serials.get p = c + BitVec.ofNat 8 (i + (s.resent p kinds).length) := by
  induction kinds generalizing s i with
  | nil =>
    have hNone : s.resent p [] = [] := List.take_nil
    rw [hNone]
    refine ⟨?_, h⟩
    show s.link p = { s.link p with outbound := (s.link p).outbound ++ [] }
    rw [List.append_nil]
  | cons k rest ih =>
    rw [List.foldl_cons]
    cases hFlag : (s.notices.flags.get p).get k with
    | none =>
      have hSame : s.resent p (k :: rest) = s.resent p rest := by
        rw [State.resent, List.filter_cons_of_neg (by rw [hFlag]; nofun)]
        rfl
      rw [State.resend, hFlag, hSame]
      exact ih s i h
    | some w =>
      rw [State.resend, hFlag]
      dsimp only
      by_cases hr : s.reaches p
      · obtain ⟨hFlags, hSessions, hRoom, hLink, hSerial⟩ := sendNotice_step hr k w rfl
        have hNext : (s.sendNotice p k w).notices.serials.get p = c + BitVec.ofNat 8 (i + 1) := by
          rw [hSerial, h, BitVec.ofNat_add, BitVec.add_assoc]
        obtain ⟨hOut, hCount⟩ := ih (s.sendNotice p k w) (i + 1) hNext
        have hResent : s.resent p (k :: rest) = k :: (s.sendNotice p k w).resent p rest := by
          rw [State.resent, State.resent, List.filter_cons_of_pos (by rw [hFlag]; rfl), ← hRoom, List.take_succ_cons, hFlags]
        have hFrame : (s.sendNotice p k w).repeatFrame p c = s.repeatFrame p c := by
          funext x
          rw [State.repeatFrame, State.repeatFrame, hFlags, State.session, hSessions]
          rfl
        rw [hOut, hCount, hResent, hLink, hFrame, List.zipIdx_cons, List.map_cons, List.append_assoc, List.length_cons, State.repeatFrame,
          hFlag, h]
        refine ⟨rfl, ?_⟩
        rw [Nat.add_assoc, Nat.add_comm 1]
      · have hNone : ∀ l, s.resent p l = [] := fun l => by
          rw [State.resent, Nat.eq_zero_of_not_pos fun hp => hr (room_pos_iff.1 hp), List.take_zero]
        obtain ⟨hOut, hCount⟩ := ih s i h
        rw [sendNotice_of_not_reached hr, hNone]
        rw [hNone] at hOut hCount
        exact ⟨hOut, hCount⟩

/-- The frames to a port touch its own queue and serial alone. -/
theorem resendAll_other (p : Port) (kinds : List NoticeKind) (s : State) :
    (kinds.foldl (fun t k => t.resend p k) s).link p.other = s.link p.other ∧
    (kinds.foldl (fun t k => t.resend p k) s).notices.serials.get p.other = s.notices.serials.get p.other ∧
    kinds.foldl (fun t k => t.resend p k) s = { s with
      links := (kinds.foldl (fun t k => t.resend p k) s).links
      notices := { s.notices with serials := (kinds.foldl (fun t k => t.resend p k) s).notices.serials } } := by
  induction kinds generalizing s with
  | nil => exact ⟨rfl, rfl, rfl⟩
  | cons k rest ih =>
    have hHere : (s.resend p k).link p.other = s.link p.other ∧
        (s.resend p k).notices.serials.get p.other = s.notices.serials.get p.other ∧
        s.resend p k = { s with
          links := (s.resend p k).links, notices := { s.notices with serials := (s.resend p k).notices.serials } } := by
      unfold State.resend
      split
      · obtain ⟨-, hLink, hSerial, hFrame⟩ := sendNotice_other s p k _
        exact ⟨hLink, hSerial, hFrame⟩
      · exact ⟨rfl, rfl, rfl⟩
    obtain ⟨hLink, hSerial, hFrame⟩ := ih (s.resend p k)
    obtain ⟨hLink', hSerial', hFrame'⟩ := hHere
    rw [List.foldl_cons]
    refine ⟨hLink.trans hLink', hSerial.trans hSerial', ?_⟩
    rw [hFrame, hFrame']

/-- An event that leaves the repeat timer and its condition as they are ends with what it left (R144, log 11). -/
theorem finish_of_steady {s : State} (hHeld : s.notices.held = none) (hCondition : s.repeatCondition = true)
    (hTimer : s.notices.repeatTimer ≠ none) : s.finish = s := by
  have hRelease : s.releaseNotices = { s with notices := { s.notices with held := none } } := by
    rw [State.releaseNotices, hHeld]
    rfl
  have hSame : ({ s with notices := { s.notices with held := none } } : State) = s := by rw [← hHeld]
  rw [State.finish, hRelease, hSame, (judgeRepeat_cases s).2.1 hCondition hTimer]

/-- Settles O45, by the frames sent to each port in turn. -/
theorem repeatTimerSendsEverySetKind : Obligations.RepeatTimerSendsEverySetKind := by
  unfold Obligations.RepeatTimerSendsEverySetKind
  refine ⟨fun s h => ?_, fun s hLaw hTimer => ?_⟩
  · show Host.Outcome.next _ = _
    rw [h]
  · obtain ⟨n, hn⟩ := Option.isSome_iff_exists.1 hTimer
    have hCondition : s.repeatCondition = true := (repeatCondition_iff s).2 (hLaw.1.1 hTimer)
    let s1 : State := s.setNotices { s.notices with repeatTimer := some (s.settings.noticeRepeat * 10) }
    let s2 : State := repeatOrder.foldl (fun t k => t.resend .a k) s1
    let s3 : State := repeatOrder.foldl (fun t k => t.resend .b k) s2
    obtain ⟨hLinkA, hSerialA⟩ := resendAll_port .a repeatOrder s1 (s.notices.serials.get .a) 0 (BitVec.add_zero _).symm
    obtain ⟨hOtherA, hOtherSerialA, hFrameA⟩ := resendAll_other .a repeatOrder s1
    have hStart : s2.notices.serials.get .b = s.notices.serials.get .b + BitVec.ofNat 8 0 := hOtherSerialA.trans (BitVec.add_zero _).symm
    obtain ⟨hLinkB, hSerialB⟩ := resendAll_port .b repeatOrder s2 (s.notices.serials.get .b) 0 hStart
    obtain ⟨hOtherB, hOtherSerialB, hFrameB⟩ := resendAll_other .b repeatOrder s2
    have hSecond : s2 = { s1 with links := s2.links, notices := { s1.notices with serials := s2.notices.serials } } := hFrameA
    have hThird : s3 = { s2 with links := s3.links, notices := { s2.notices with serials := s3.notices.serials } } := hFrameB
    have hFrame : s3 = { s with
        links := s3.links
        notices := { s.notices with serials := s3.notices.serials, repeatTimer := some (s.settings.noticeRepeat * 10) } } :=
      hThird.trans (by rw [hSecond]; rfl)
    have hExec : exec .repeatTimerExpiry s = .next s3 := by
      have hFinish : s3.finish = s3 := finish_of_steady (by rw [hFrame]; exact hLaw.2) (by rw [hFrame]; exact hCondition) (by rw [hFrame]; nofun)
      refine Eq.trans ?_ (congrArg Host.Outcome.next hFinish)
      show Host.Outcome.next _ = _
      rw [hn]
    refine ⟨s3, hExec, fun p => ?_, hFrame⟩
    cases p with
    | a =>
      rw [Nat.zero_add] at hSerialA
      exact ⟨hOtherB.trans hLinkA, hOtherSerialB.trans hSerialA⟩
    | b =>
      have hFlags : s2.notices.flags = s.notices.flags := by rw [hSecond]; rfl
      have hSessions : s2.sessions = s.sessions := by rw [hSecond]; rfl
      have hLink : s2.link .b = s.link .b := hOtherA
      have hOpen : s2.isOpen .b = s.isOpen .b := isOpen_of_sessions hSessions .b
      have hResent : s2.resent .b repeatOrder = s.resent .b repeatOrder := by
        rw [State.resent, State.resent, State.room, State.room, hFlags, hLink, hOpen]
      have hSent : s2.repeatFrame .b (s.notices.serials.get .b) = s.repeatFrame .b (s.notices.serials.get .b) := by
        funext x
        rw [State.repeatFrame, State.repeatFrame, hFlags, State.session, hSessions]
        rfl
      rw [hResent, hSent, hLink] at hLinkB
      rw [hResent, Nat.zero_add] at hSerialB
      exact ⟨hLinkB, hSerialB⟩

/-! The leak and the scrub pace (R131, R154) -/

/-- Settles O46, by the timer and the engine's state. -/
theorem leakAndScrubPaceExpire : Obligations.LeakAndScrubPaceExpire := by
  unfold Obligations.LeakAndScrubPaceExpire
  intro s
  dsimp only [exec, execLeakTimerExpiry, execScrubPaceExpiry]
  refine ⟨fun ht hState => ?_, fun h => ?_, fun ht => ?_, fun ht => ?_⟩
  · obtain ⟨n, hn⟩ := Option.isSome_iff_exists.1 ht
    refine ⟨s.setIntegrity { s.integrity with blocks := s.integrity.blocks.map Block.leak, leakTimer := some (s.settings.leakPeriod * 1000) },
      ?_, fun b => leak_block s b, rfl, rfl⟩
    have hRuns : s.running = true := decide_eq_true hState
    rw [hn, hRuns]
    rfl
  · rcases h with ht | hState
    · rw [ht]
    · have hRuns : s.running = false := decide_eq_false fun hc => hc hState
      cases s.integrity.leakTimer with
      | none => rfl
      | some n =>
        rw [hRuns]
        rfl
  · obtain ⟨n, hn⟩ := Option.isSome_iff_exists.1 ht
    rw [hn]
    rfl
  · rw [ht]

end Sys2Proof.Machine
end

section
/-! PROOFS. The service port's requests that need no grant: sessions, settings, views (R67, R70, R71, R180 to R182). -/

-- The proofs are checked one after the other: run at once, their threads would exceed the memory bound of the check.
set_option Elab.async false

namespace Sys2Proof.Machine

/-! What the port's own record changes in the shared operations: nothing, while the settings stand -/

theorem raise_setService (s : State) (x : ServicePort) (p : Port) (k : NoticeKind) (w : Option Word) :
    (s.setService x).raise p k w = (s.raise p k w).setService x := by
  rw [raise_alike (s := s) (t := s.setService x) (.of_sessions rfl rfl rfl), raise_alike (.refl s)]
  rfl

theorem capture_setService {s : State} {x : ServicePort} (h : x.settings = s.settings) (f : FaultRecord) :
    (s.setService x).capture f = (s.capture f).setService x := by
  cases x
  cases h
  rfl

theorem judgeRepeat_setService {s : State} {x : ServicePort} (h : x.settings = s.settings) :
    (s.setService x).judgeRepeat = s.judgeRepeat.setService x := by
  obtain ⟨h1, h2, h3⟩ := judgeRepeat_cases s
  obtain ⟨g1, g2, g3⟩ := judgeRepeat_cases (s.setService x)
  have hCondition : (s.setService x).repeatCondition = s.repeatCondition := rfl
  have hSettings : (s.setService x).settings = s.settings := h
  cases hc : s.repeatCondition with
  | false => rw [h3 hc, g3 (hCondition.trans hc)]; rfl
  | true =>
    by_cases ht : s.notices.repeatTimer = none
    · rw [h1 hc ht, g1 (hCondition.trans hc) ht, hSettings]
      rfl
    · rw [h2 hc ht, g2 (hCondition.trans hc) ht]

/-- The port's record while a request that it has taken is executed. -/
def State.accepting (s : State) : ServicePort :=
  { s.service with target := .busy, collection := [], overlong := false, sent := 0, result := none }

/-- A request to a port that is not BUSY runs, and leaves its result. -/
theorem serviceEvent_eq {s : State} {code : Byte} {params : List Byte} (h : s.service.target ≠ .busy) (hl : params.length ≤ 14)
    (hc : paramLength code = some params.length) (run : State → ServiceResult × State) : s.serviceEvent code params run =
      (run (s.setService s.accepting)).2.complete (run (s.setService s.accepting)).1 := serviceEvent_of_accepted h hl hc run

/-- The result left by a request that changed nothing of the port's record. -/
theorem complete_setService {s t : State} (h : t.service = s.service) (r : ServiceResult) :
    (t.setService s.accepting).complete r = t.withResult r := by
  rw [State.withResult, h]
  rfl

/-! FENCE, UNFENCE and CLEAR_MARK (R67, R70, R71) -/

theorem fence_setService {s : State} {x : ServicePort} (h : x.settings = s.settings) (p : Port) :
    ((s.setService x).fencePort p fenceCauseService .fenceByService).judgeRepeat =
      ((((s.ending p .fenced).raise p.other .peerFenced (some 3#32)).capture
        { kind := .fenceByService, port := some p }).judgeRepeat).setService x := by
  have hEnding : (s.setService x).ending p .fenced = (s.ending p .fenced).setService x := rfl
  have hFrame := raise_frame (s.ending p .fenced) p.other .peerFenced (some 3#32)
  have hRaised : x.settings = ((s.ending p .fenced).raise p.other .peerFenced (some 3#32)).settings := by
    rw [h]
    exact (congrArg ServicePort.settings hFrame.2.2.2.2.2.2.2.1).symm
  rw [State.fencePort, leaveTo_eq_ending, hEnding, raise_setService]
  show State.judgeRepeat (State.capture (State.setService ((s.ending p .fenced).raise p.other .peerFenced (some 3#32)) x) _) = _
  rw [capture_setService hRaised, judgeRepeat_setService (by simpa using hRaised)]

theorem portOf_of_le {b : Byte} (h : 2 ≤ b.toNat) : portOf b = none := by
  unfold portOf
  split
  · next h0 => omega
  · next h1 => omega
  · rfl

theorem portOf_of_code {b : Byte} {p : Port} (h : b.toNat = portCode p) : portOf b = some p := by
  unfold portOf
  rw [h]
  cases p <;> rfl

/-- Settles O55, by the port that the parameter names. -/
theorem servicePortFencesAndUnfences : Obligations.ServicePortFencesAndUnfences := by
  unfold Obligations.ServicePortFencesAndUnfences
  intro b s h
  have hFence : exec (.fence b) s = .next ((State.runFence b (s.setService s.accepting)).2.complete (State.runFence b (s.setService s.accepting)).1) :=
    congrArg Host.Outcome.next (serviceEvent_eq h (by simp) rfl _)
  have hUnfence : exec (.unfence b) s =
      .next ((State.runUnfence b (s.setService s.accepting)).2.complete (State.runUnfence b (s.setService s.accepting)).1) :=
    congrArg Host.Outcome.next (serviceEvent_eq h (by simp) rfl _)
  have hClear : exec (.serviceClearMark b) s = .next ((State.runServiceClearMark b (s.setService s.accepting)).2.complete
      (State.runServiceClearMark b (s.setService s.accepting)).1) :=
    congrArg Host.Outcome.next (serviceEvent_eq h (by simp) rfl _)
  unfold State.runFence at hFence
  unfold State.runUnfence at hUnfence
  unfold State.runServiceClearMark at hClear
  refine ⟨fun hb c hc => ?_, fun p hp => ?_⟩
  · rw [portOf_of_le hb] at hFence hUnfence hClear
    rcases hc with rfl | rfl | rfl
    · exact hFence
    · exact hUnfence
    · exact hClear
  · have hCode : b.toNat = portCode p := by
      cases p <;> exact hp
    rw [portOf_of_code hCode] at hFence hUnfence hClear
    dsimp only at hFence hUnfence hClear
    have hSession : (s.setService s.accepting).session p = s.session p := rfl
    rw [hSession] at hFence hUnfence hClear
    refine ⟨fun hf => ?_, fun hf => ?_, fun hf => ?_, fun hf => ?_, hClear⟩
    · rw [if_pos hf] at hFence
      exact hFence
    · rw [if_neg hf, fence_setService (x := s.accepting) rfl] at hFence
      exact hFence.trans (congrArg Host.Outcome.next (complete_setService (by simp [State.ending]) _))
    · rw [if_pos hf] at hUnfence
      exact hUnfence
    · rw [if_neg hf] at hUnfence
      exact hUnfence

/-! The threshold tests of a lowered BUCKET_THRESHOLD (R155, R163) -/

theorem capture_faults_congr {s t : State} (hFaults : t.faults = s.faults) (hReset : t.resetCtl = s.resetCtl)
    (hAlert : t.settings.alertEnable = s.settings.alertEnable) (f : FaultRecord) : (t.capture f).faults = (s.capture f).faults := by
  have hReads : ∀ x : State, (x.capture f).faults = (({ s with
      faults := x.faults, resetCtl := x.resetCtl
      service := { s.service with settings := { s.settings with alertEnable := x.settings.alertEnable } } } : State).capture f).faults :=
    fun _ => rfl
  rw [hReads t, hFaults, hReset, hAlert]
  rfl

/-- The faults that a list of refused retirements leaves depend on the records, the uptime and the enable set alone. -/
theorem captureAll_faults_congr {l : List FaultRecord} {s t : State} (hFaults : t.faults = s.faults) (hReset : t.resetCtl = s.resetCtl)
    (hAlert : t.settings.alertEnable = s.settings.alertEnable) : (l.foldl State.capture t).faults = (l.foldl State.capture s).faults := by
  induction l generalizing s t with
  | nil => exact hFaults
  | cons f rest ih => exact ih (capture_faults_congr hFaults hReset hAlert f) hReset hAlert

/-- The blocks of a list that a threshold test would queue. -/
def State.dueBlocks (s : State) (threshold : Nat) (l : List Nat) : List Nat :=
  l.filter fun b => decide ((s.block b).state = .inService ∧ b ∉ s.integrity.retireQueue ∧ threshold ≤ (s.block b).bucket)

/-- The faults that refused retirements of the blocks of a list leave. -/
def State.refuseAll (s : State) (l : List Nat) : State := l.foldl (fun x b => x.capture { kind := .retireLimit, block := some b }) s

theorem refuseAll_faults_congr {l : List Nat} {s t : State} (hFaults : t.faults = s.faults) (hReset : t.resetCtl = s.resetCtl)
    (hAlert : t.settings.alertEnable = s.settings.alertEnable) : (t.refuseAll l).faults = (s.refuseAll l).faults := by
  have h : ∀ x : State, x.refuseAll l = (l.map fun b => ({ kind := .retireLimit, block := some b } : FaultRecord)).foldl State.capture x :=
    fun x => (List.foldl_map ..).symm
  rw [h, h]
  exact captureAll_faults_congr hFaults hReset hAlert

/-- The state with the due blocks of a list queued, as far as the limit of four allows, and the others refused. -/
def State.requeued (s : State) (threshold : Nat) (l : List Nat) : State :=
  { s with
    integrity := { s.integrity with
      retireQueue := s.integrity.retireQueue ++ (s.dueBlocks threshold l).take (4 - s.retirementCount) }
    faults := (s.refuseAll ((s.dueBlocks threshold l).drop (4 - s.retirementCount))).faults }

theorem requeued_of_none {s : State} {threshold : Nat} {l : List Nat} (h : s.dueBlocks threshold l = []) : s.requeued threshold l = s := by
  rw [State.requeued, h, List.take_nil, List.drop_nil, List.append_nil]
  rfl

/-- One due block queued for the first. -/
theorem dueBlocks_queued (s : State) (threshold : Nat) {b : Nat} {l : List Nat} (hb : b ∉ l) :
    (s.setIntegrity { s.integrity with retireQueue := s.integrity.retireQueue ++ [b] }).dueBlocks threshold l = s.dueBlocks threshold l := by
  refine List.filter_congr fun c hc => ?_
  have hne : c ≠ b := fun h => hb (h ▸ hc)
  have hMem : c ∉ s.integrity.retireQueue ++ [b] ↔ c ∉ s.integrity.retireQueue := by
    rw [List.mem_append, List.mem_singleton, or_iff_left hne]
  exact decide_eq_decide.2 (and_congr_right fun _ => and_congr_left fun _ => hMem)

/-- The threshold test of one block. -/
def State.retest (t : State) (b : Nat) : State :=
  if (t.block b).state = .inService ∧ b ∉ t.integrity.retireQueue ∧ t.settings.bucketThreshold ≤ (t.block b).bucket then t.queueBlock b
  else t

/-- A block joins the retire queue. -/
def State.enqueued (s : State) (b : Nat) : State := s.setIntegrity { s.integrity with retireQueue := s.integrity.retireQueue ++ [b] }

theorem enqueued_count (s : State) (b : Nat) : (s.enqueued b).retirementCount = s.retirementCount + 1 := by
  have hProgress : (s.enqueued b).inProgress = s.inProgress := inProgress_of_blocks rfl
  have hRetired : (s.enqueued b).retiredCount = s.retiredCount := retiredCount_of_blocks rfl
  have hLength : (s.enqueued b).integrity.retireQueue.length = s.integrity.retireQueue.length + 1 := List.length_append
  rw [State.retirementCount, State.retirementCount, hProgress, hRetired, hLength]
  rfl

/-- The tests of the blocks of a list, made one after the other. -/
theorem retest_eq (threshold : Nat) (l : List Nat) (s : State) (hThreshold : s.settings.bucketThreshold = threshold) (hl : l.Nodup) :
    l.foldl State.retest s = s.requeued threshold l := by
  induction l generalizing s with
  | nil => exact (requeued_of_none rfl).symm
  | cons b rest ih =>
    obtain ⟨hb, hRest⟩ := List.nodup_cons.1 hl
    rw [List.foldl_cons, State.retest, hThreshold]
    by_cases hDue : (s.block b).state = .inService ∧ b ∉ s.integrity.retireQueue ∧ threshold ≤ (s.block b).bucket
    · have hCons : s.dueBlocks threshold (b :: rest) = b :: s.dueBlocks threshold rest := List.filter_cons_of_pos (decide_eq_true hDue)
      rw [if_pos hDue, State.queueBlock, if_pos ⟨hDue.1, hDue.2.1⟩, State.requeued, hCons]
      by_cases hRoom : s.retirementCount < 4
      · have hSplit : 4 - s.retirementCount = (4 - (s.retirementCount + 1)) + 1 := by omega
        have hFaults : ∀ m, ((s.enqueued b).refuseAll m).faults = (s.refuseAll m).faults := fun m => refuseAll_faults_congr rfl rfl rfl
        have hRest' := ih (s.enqueued b) hThreshold hRest
        rw [State.requeued, enqueued_count, State.enqueued, dueBlocks_queued s threshold hb, ← State.enqueued, hFaults] at hRest'
        rw [if_pos (show s.retirementCount < Config.retireLimit from hRoom), hSplit, List.take_succ_cons, List.drop_succ_cons,
          List.append_cons _ _ (List.take _ (s.dueBlocks threshold rest))]
        exact hRest'
      · have hRest' := ih (s.capture { kind := .retireLimit, block := some b }) hThreshold hRest
        have hFull : 4 - s.retirementCount = 0 := by omega
        have hCount : (s.capture { kind := .retireLimit, block := some b }).retirementCount = s.retirementCount := rfl
        rw [State.requeued, hCount, hFull] at hRest'
        rw [if_neg (show ¬s.retirementCount < Config.retireLimit from hRoom), hFull]
        exact hRest'
    · have hSkip : s.dueBlocks threshold (b :: rest) = s.dueBlocks threshold rest :=
        List.filter_cons_of_neg (by rw [decide_eq_true_eq]; exact hDue)
      rw [if_neg hDue, ih s hThreshold hRest, State.requeued, State.requeued, hSkip]

/-! GET_SETTING and SET_SETTING (R131, R155, R180, R181, R193) -/

theorem ofNumber_of_unknown {number : Byte} (h : number.toNat = 0 ∨ 12 < number.toNat) : SettingName.ofNumber number = none := by
  unfold SettingName.ofNumber
  split
  case h_13 => rfl
  all_goals omega

/-- The two requests for a number that names a setting, or names none. -/
theorem runSetting_cases (number : Byte) (value : Half) (s : State) :
    (SettingName.ofNumber number = none → s.runGetSetting number = ({ status := .range }, s) ∧
      s.runSetSetting number value = ({ status := .range }, s)) ∧
    ∀ k, SettingName.ofNumber number = some k →
      s.runGetSetting number = ({ status := .ok, data := valueBytes (s.settings.get k) }, s) ∧
      s.runSetSetting number value = if k.bounds.1 ≤ value.toNat ∧ value.toNat ≤ k.bounds.2 then
          if value.toNat = s.settings.get k then ({ status := .ok, data := valueBytes value.toNat }, s)
          else ({ status := .ok, data := valueBytes value.toNat },
            (s.setService { s.service with settings := s.settings.put k value.toNat }).applySetting k (s.settings.get k) value.toNat)
        else ({ status := .range, data := valueBytes (s.settings.get k) }, s) := by
  unfold State.runGetSetting State.runSetSetting
  refine ⟨fun h => ?_, fun k h => ?_⟩
  · rw [h]
    exact ⟨rfl, rfl⟩
  · rw [h]
    exact ⟨rfl, rfl⟩

/-- The state with a setting held. -/
def State.holding (s : State) (k : SettingName) (v : Nat) : State := { s with service := { s.service with settings := s.settings.put k v } }

/-- The effects of a setting's change in its own event: those of ALERT_ENABLE, SCRUB_PACE and a lowered BUCKET_THRESHOLD. -/
theorem applySetting_plain {k : SettingName} (h1 : k ≠ .alertEnable) (h2 : k ≠ .scrubPace) (h3 : k ≠ .bucketThreshold) (s : State)
    (old new : Nat) : s.applySetting k old new = s := by
  cases k with
  | alertEnable => exact absurd rfl h1
  | scrubPace => exact absurd rfl h2
  | bucketThreshold => exact absurd rfl h3
  | _ => rfl

theorem changeScrubPace_of_standing {s : State} {old new : Nat} (h0 : new ≠ 0) (h : old ≠ 0 ∨ s.engine.state = .initializing) (x : ServicePort) :
    (s.setService x).changeScrubPace old new = s.setService x := by
  unfold State.changeScrubPace
  rw [if_neg h0, if_neg]
  rintro ⟨hz, hRun⟩
  have hRuns : s.engine.state ≠ .initializing := of_decide_eq_true hRun
  exact h.elim (fun hOld => hOld hz) hRuns

theorem retestBuckets_holding (s : State) (y x : ServicePort) {new : Nat} (hx : x.settings = s.settings.put .bucketThreshold new) :
    ((s.setService y).setService x).retestBuckets = { s with
      service := x
      integrity := { s.integrity with
        retireQueue := s.integrity.retireQueue ++ (s.dueBlocks new (List.range 16)).take (4 - s.retirementCount) }
      faults := (s.refuseAll ((s.dueBlocks new (List.range 16)).drop (4 - s.retirementCount))).faults } := by
  have hAlert : (s.setService x).settings.alertEnable = s.settings.alertEnable := by
    show x.settings.alertEnable = _
    rw [hx]
    rfl
  have hPort : (s.setService y).setService x = s.setService x := rfl
  have hEq : (s.setService x).retestBuckets = (s.setService x).requeued new (List.range 16) :=
    retest_eq new _ _ (by show x.settings.bucketThreshold = _; rw [hx]; rfl) List.nodup_range
  rw [hPort, hEq, State.requeued, refuseAll_faults_congr (s := s) (t := s.setService x) rfl rfl hAlert]
  rfl

/-- Settles O53, by the setting's number, its range and what a change of it does. -/
theorem settingsAreReadAndWritten : Obligations.SettingsAreReadAndWritten := by
  unfold Obligations.SettingsAreReadAndWritten
  refine ⟨by simp only [List.forall_mem_cons]; decide, fun number => ofNumber_of_unknown, fun number value s h => ?_⟩
  have hGet : exec (.getSetting number) s = .next ((State.runGetSetting number (s.setService s.accepting)).2.complete
      (State.runGetSetting number (s.setService s.accepting)).1) := congrArg Host.Outcome.next (serviceEvent_eq h (by simp) rfl _)
  have hSet : exec (.setSetting number value) s = .next ((State.runSetSetting number value (s.setService s.accepting)).2.complete
      (State.runSetSetting number value (s.setService s.accepting)).1) :=
    congrArg Host.Outcome.next (serviceEvent_eq h (by simp [valueBytes, bytesOf]) rfl _)
  obtain ⟨hUnknown, hKnown⟩ := runSetting_cases number value (s.setService s.accepting)
  refine ⟨fun hk => ?_, fun k hk => ?_⟩
  · obtain ⟨hg, hs⟩ := hUnknown hk
    rw [hg] at hGet
    rw [hs] at hSet
    exact ⟨hGet, hSet⟩
  · obtain ⟨hg, hs⟩ := hKnown k hk
    rw [hg] at hGet
    rw [hs] at hSet
    have hBytes : ∀ v, valueBytes v = [BitVec.ofNat 8 (v / 256), BitVec.ofNat 8 v] := fun v => by
      rw [valueBytes, bytesOf, bytesOf, bytesOf, Nat.pow_zero, Nat.div_one, Nat.pow_one]
    have hSettings : (s.setService s.accepting).settings = s.settings := rfl
    rw [hBytes, hSettings] at hGet
    rw [hBytes, hBytes, hSettings] at hSet
    refine ⟨hGet, fun hOut => ?_, fun hSame hLow hHigh => ?_, fun hLow hHigh hNew => ?_⟩
    · rw [if_neg fun hc => hOut.elim (Nat.not_lt.2 hc.1) (Nat.not_lt.2 hc.2)] at hSet
      exact hSet
    · rw [if_pos ⟨hLow, hHigh⟩, if_pos hSame] at hSet
      exact hSet
    · rw [if_pos ⟨hLow, hHigh⟩, if_neg hNew] at hSet
      refine ⟨Settings.get_put_same _ k ⟨hLow, hHigh⟩, fun k' hk' => Settings.get_put_other _ hk' _, fun h1 h2 h3 => ?_, fun hName => ?_,
        fun hName h0 => ?_, fun hName h0 hRun => ?_, fun hName h0 hIdle => ?_, fun hName hUp => ?_, fun hName hDown => ?_⟩
      · rw [applySetting_plain h1 h2 h3] at hSet
        exact hSet
      · subst hName
        exact hSet
      · subst hName
        rw [State.applySetting, State.changeScrubPace, if_pos h0] at hSet
        exact hSet
      · subst hName
        rw [State.applySetting, State.changeScrubPace, if_neg fun hz => hNew (hz.trans h0.symm),
          if_pos ⟨h0, decide_eq_true hRun⟩] at hSet
        exact hSet
      · subst hName
        rw [State.applySetting, changeScrubPace_of_standing (s := s.setService s.accepting) h0 hIdle] at hSet
        exact hSet
      · subst hName
        rw [State.applySetting, if_neg (Nat.not_lt.2 (Nat.le_of_lt hUp))] at hSet
        exact hSet
      · subst hName
        rw [State.applySetting, if_pos hDown] at hSet
        rw [retestBuckets_holding (s := s) (new := value.toNat) (hx := rfl)] at hSet
        exact hSet

end Sys2Proof.Machine
end

section
/-! PROOFS. The codes, the derived values and the layouts of the views (R182, R199 to R203). -/

-- The proofs are checked one after the other: run at once, their threads would exceed the memory bound of the check.
set_option Elab.async false

namespace Sys2Proof.Machine

/-! The bytes of a field and of a layout (R201) -/

theorem bytesOf_eq (k n : Nat) : bytesOf k n = (List.range k).map fun i => BitVec.ofNat 8 (n / 256 ^ (k - 1 - i)) := by
  induction k with
  | zero => rfl
  | succ k ih =>
    rw [bytesOf, ih, List.range_succ_eq_map, List.map_cons, List.map_map]
    refine congrArg (_ :: ·) (List.map_congr_left fun i _ => ?_)
    show _ = BitVec.ofNat 8 (n / 256 ^ (k + 1 - 1 - (i + 1)))
    rw [Nat.add_sub_cancel, Nat.sub_sub, Nat.add_comm 1 i]

theorem layout_append (x y : List (Nat × Nat)) : layout (x ++ y) = layout x ++ layout y := List.flatMap_append ..

theorem layout_cons (x : Nat × Nat) (y : List (Nat × Nat)) : layout (x :: y) = bytesOf x.1 x.2 ++ layout y := List.flatMap_cons ..

theorem layout_flatMap {α : Type} (l : List α) (f : α → List (Nat × Nat)) : layout (l.flatMap f) = l.flatMap fun a => layout (f a) :=
  List.flatMap_assoc ..

theorem layout_map {α : Type} (l : List α) (f : α → Nat × Nat) : layout (l.map f) = l.flatMap fun a => bytesOf (f a).1 (f a).2 :=
  List.flatMap_map ..

/-! The derived values that a view reports -/

theorem setCode_eq (f : PendingFlags) : f.setCode = (if f.peerLapsed.isSome = true then 1 else 0) +
    (if f.peerFenced.isSome = true then 2 else 0) + (if f.entryDamaged.isSome = true then 4 else 0) +
    (if f.journalCompromised.isSome = true then 8 else 0) := rfl

theorem inProgress_iff {st : BlockState} : st.inProgress = true ↔ st = .closing ∨ st = .moving := by
  cases st <;> simp [BlockState.inProgress]

theorem condition_eq (s : State) (n : Nat) :
    s.condition n = if s.assoc n ≠ none then .live else if n ∈ s.journal.pool then .pooled else .withdrawn := by
  unfold State.condition
  exact ite_congr (propext Option.isSome_iff_ne_none) (fun _ => rfl) fun _ =>
    ite_congr (propext List.contains_iff_mem) (fun _ => rfl) (fun _ => rfl)

theorem retirementCount_eq (s : State) : s.retirementCount = ((List.range 16).filter fun b => (s.block b).state = .retired).length +
    (if s.inProgress = none then 0 else 1) + s.integrity.retireQueue.length := by
  have hProgress : s.inProgress.toList.length = if s.inProgress = none then 0 else 1 := by
    cases s.inProgress <;> rfl
  rw [State.retirementCount, hProgress, State.retiredCount, List.countP_eq_length_filter]

/-! The views (R182, Table 11-9) -/

/-- A request that only reads leaves its result. -/
theorem serviceEvent_of_read {s : State} {code : Byte} {params : List Byte} (h : s.service.target ≠ .busy) (hl : params.length ≤ 14)
    (hc : paramLength code = some params.length) {run : State → ServiceResult × State} {r : ServiceResult}
    (hRun : run (s.setService s.accepting) = (r, s.setService s.accepting)) : s.serviceEvent code params run = s.withResult r := by
  rw [serviceEvent_eq h hl hc, hRun]
  rfl

/-- The fields of one port in the SESSIONS view. -/
def State.sessionFields (s : State) (p : Port) : List (Nat × Nat) :=
  let x := s.session p; let l := s.link p; let f := s.notices.flags.get p
  [(1, x.state.code), (2, x.epoch.toNat), (1, bitIf x.lapseMark 0 + bitIf x.clearedSince 1 + bitIf x.fenceLine 2),
   (2, x.holdings), (2, x.adoptions), (2, x.lapseTimer.getD 0xFFFF), (2, x.drainTimer.getD 0xFFFF), (1, l.state.code),
   (1, l.requests.length), (1, l.cache.length), (1, l.outbound.length), (1, f.setCode),
   (2, (f.peerLapsed.join.getD 0).toNat), (1, (f.peerFenced.join.getD 0).toNat), (1, (s.notices.serials.get p).toNat)]

theorem sessionView_eq (s : State) (p : Port) : s.sessionView p = layout (s.sessionFields p) := rfl

/-- The fields of one class in the FAULTS view. -/
def ClassRecord.fields (r : ClassRecord) : List (Nat × Nat) :=
  match r.first with
  | some f => [(1, 128 + f.kind.code), (1, r.later.toNat),
      (1, bitIf f.port.isSome 0 + bitIf f.slot.isSome 1 + bitIf f.block.isSome 2 + bitIf f.key.isSome 3),
      (1, (f.port.map portCode).getD 0xFF), (2, f.slot.getD 0xFFFF), (1, f.block.getD 0xFF),
      (1, (f.key.map fun k => k.volume.toNat).getD 0), (4, (f.key.map fun k => k.region.toNat).getD 0), (6, f.uptime.toNat)]
  | none => [(1, 0), (1, r.later.toNat), (1, 0), (1, 0xFF), (2, 0xFFFF), (1, 0xFF), (1, 0), (4, 0), (6, 0)]

theorem classView_eq (r : ClassRecord) : r.view = layout r.fields := by
  unfold ClassRecord.view ClassRecord.fields
  cases r.first with
  | none => rfl
  | some f => rfl

/-- The fields of the BLOCKS view. -/
def State.blockFields (s : State) : List (Nat × Nat) :=
  ((List.range 16).flatMap fun b => [(1, (s.block b).state.code), (1, (s.block b).bucket)]) ++
    [(1, s.integrity.retireQueue.length)] ++ ((List.range 4).map fun i => (1, s.integrity.retireQueue[i]?.getD 0xFF)) ++
    [(1, s.inProgress.getD 0xFF), (1, s.integrity.reserve), (1, s.retirementCount), (2, s.integrity.scrubPosition)]

theorem blocksView_eq (s : State) : s.blocksView = layout s.blockFields := by
  have hBlocks : layout ((List.range 16).flatMap fun b => [(1, (s.block b).state.code), (1, (s.block b).bucket)]) =
      (List.range 16).flatMap fun b => bytesOf 1 (s.block b).state.code ++ bytesOf 1 (s.block b).bucket := layout_flatMap ..
  have hQueue : layout ((List.range 4).map fun i => (1, s.integrity.retireQueue[i]?.getD 0xFF)) =
      (List.range 4).flatMap fun i => bytesOf 1 (s.integrity.retireQueue[i]?.getD 0xFF) := layout_map ..
  rw [State.blockFields, layout_append, layout_append, layout_append, hBlocks, hQueue, State.blocksView, List.append_assoc, List.append_assoc,
    List.append_assoc]
  rfl

theorem faultsView_eq (s : State) : s.faultsView = layout (s.faults.link.fields ++ s.faults.storeCorrected.fields ++
    s.faults.storeLost.fields ++ s.faults.session.fields ++ s.faults.capacity.fields ++
    [(1, s.settings.alertEnable.toNat), (1, bitIf s.faults.alert 0)]) := by
  rw [layout_append, layout_append, layout_append, layout_append, layout_append, State.faultsView, classView_eq, classView_eq, classView_eq,
    classView_eq, classView_eq, List.append_assoc _ _ (bytesOf 1 (bitIf s.faults.alert 0))]
  rfl

theorem runReadView_of_unknown {view : Byte} (h : view.toNat = 0 ∨ 5 < view.toNat) (s : State) :
    s.runReadView view = ({ status := .range }, s) := by
  unfold State.runReadView
  split
  case h_6 => rfl
  all_goals omega

/-- Settles O54, by the tables, the derived values and the view of each number. -/
theorem viewsAndIdentityAreLaidOut : Obligations.ViewsAndIdentityAreLaidOut := by
  unfold Obligations.ViewsAndIdentityAreLaidOut
  refine ⟨rfl, rfl, rfl, rfl, rfl, rfl, rfl, rfl, rfl, rfl, rfl, ?_, fun k => ?_, fun f => rfl, fun b i => rfl, bytesOf_eq, fun s => ?_,
    fun f enable => ?_, fun s h => ?_⟩
  · simp only [List.forall_mem_cons]
    decide
  · cases k <;> rfl
  · refine ⟨fun p => ?_, condition_eq s, rfl, rfl, fun b => rfl, fun b hb => ?_, fun hNone b => ?_, retirementCount_eq s⟩
    · unfold State.isOpen
      cases (s.session p).state <;> simp [SessionState.isOpen]
    · exact ⟨lt_of_inProgress (inProgress_of_some hb), inProgress_iff.1 (inProgress_of_some hb)⟩
    · have hb := inProgress_eq_none_iff.1 hNone b
      exact ⟨fun hc => absurd hb (by rw [hc]; nofun), fun hc => absurd hb (by rw [hc]; nofun)⟩
  · rw [alertCondition_iff]
    exact exists_congr fun c => and_congr_right fun _ => Option.isSome_iff_ne_none
  · have hAnswers : ∀ (v : Byte) (data : List Byte), State.runReadView v (s.setService s.accepting) =
        ({ status := .ok, data := data }, s.setService s.accepting) →
        exec (.readView v) s = .next (s.withResult { status := .ok, data := data }) := fun v data hRun =>
      congrArg Host.Outcome.next (serviceEvent_of_read h (by simp) rfl hRun)
    refine ⟨hAnswers 1 _ ?_, hAnswers 2 _ rfl, hAnswers 3 _ ?_, hAnswers 4 _ ?_, hAnswers 5 _ rfl, fun v hv => ?_, ?_⟩
    · rw [layout_append]
      rfl
    · exact congrArg (fun d => (({ status := .ok, data := d } : ServiceResult), s.setService s.accepting)) (blocksView_eq s)
    · exact congrArg (fun d => (({ status := .ok, data := d } : ServiceResult), s.setService s.accepting)) (faultsView_eq s)
    · exact congrArg Host.Outcome.next (serviceEvent_of_read h (by simp) rfl (runReadView_of_unknown hv _))
    · exact congrArg Host.Outcome.next (serviceEvent_of_read h (by simp) rfl rfl)

end Sys2Proof.Machine
end

section
/-! PROOFS. The writes to the service port and its bus (R174 to R179, R184). -/

-- The proofs are checked one after the other: run at once, their threads would exceed the memory bound of the check.
set_option Elab.async false

namespace Sys2Proof.Machine

/-! The bus (R174, R175, R177) -/

/-- The port's record between transactions. -/
def State.idlePort (s : State) : ServicePort := { s.service with target := .idle, collection := [], overlong := false, sent := 0 }

theorem busStart_of_busy {s : State} (h : s.service.target = .busy) (a : BitVec 7) (d : BusDirection) : s.busStart a d = (false, s) := by
  unfold State.busStart
  rw [if_pos h]

theorem busStart_of_other {s : State} {a : BitVec 7} (h : s.service.target ≠ .busy) (ha : a ≠ s.service.address) (d : BusDirection) :
    s.busStart a d = (false, s.setService s.idlePort) := by
  unfold State.busStart
  rw [if_neg h]
  exact if_neg ha

theorem busStart_of_own {s : State} (h : s.service.target ≠ .busy) :
    s.busStart s.service.address .write = (true, s.setService { s.idlePort with target := .receiving }) ∧
    s.busStart s.service.address .read = (true, s.setService { s.idlePort with target := .sending }) := by
  unfold State.busStart
  exact ⟨(if_neg h).trans (if_pos rfl), (if_neg h).trans (if_pos rfl)⟩

theorem busByte_cases (s : State) (b : Byte) :
    (s.service.target = .receiving → s.service.collection.length < 16 →
      s.busByte b = (true, s.setService { s.service with collection := s.service.collection ++ [b] })) ∧
    (s.service.target = .receiving → 16 ≤ s.service.collection.length →
      s.busByte b = (false, s.setService { s.service with overlong := true })) ∧
    (s.service.target ≠ .receiving → s.busByte b = (false, s)) := by
  unfold State.busByte
  refine ⟨fun h hl => ?_, fun h hl => ?_, fun h => ?_⟩
  · rw [if_pos h]
    exact if_pos hl
  · rw [if_pos h]
    exact if_neg (Nat.not_lt.2 hl)
  · rw [if_neg h]

theorem busStop_cases (s : State) :
    (s.service.target = .idle ∨ s.service.target = .busy → s.busStop = s) ∧
    (s.service.target = .sending → s.busStop = s.setService { s.service with target := .idle, sent := 0 }) ∧
    (s.service.target = .receiving → s.busStop = s.stopWrite) := by
  unfold State.busStop
  refine ⟨fun h => ?_, fun h => by rw [h], fun h => by rw [h]⟩
  rcases h with h | h
  · rw [h]
  · rw [h]

/-- What the STOP of a write leaves in the result buffer (R176). -/
def WriteJudgement.leaves (old : Option ServiceResult) : WriteJudgement → Option ServiceResult
  | .ignored => old
  | .badFormat => some { status := .badFormat }
  | .unknown => some { status := .unknown }
  | .accepted => none

/-- What a STOP makes of a write (R175, R176). -/
theorem stopWrite_of_judged {s : State} {j : WriteJudgement} (h : judgeWrite s.service.collection s.service.overlong = j) :
    s.stopWrite = s.setService { s.service with
      target := if j = .accepted then .busy else .idle
      collection := [], overlong := false, result := j.leaves s.service.result } := by
  unfold State.stopWrite
  rw [h]
  cases j with
  | ignored | badFormat | unknown | accepted => rfl

theorem write_eq_fold {s : State} (h : s.service.target ≠ .busy) (bytes : List Byte) :
    s.write bytes = some (bytes.foldl (fun t b => (t.busByte b).2) (s.busStart s.service.address .write).2).busStop := by
  unfold State.write State.receiveWrite
  dsimp only
  rw [(busStart_of_own h).1, if_pos rfl]
  rfl

/-- The bytes that a read transaction sends, one after the other (R177). -/
theorem sendBytes_eq (n : Nat) (s : State) (h : s.service.target = .sending) : State.sendBytes n s =
    ((List.range n).map fun i => some (s.service.readBytes[s.service.sent + i]?.getD 0xFF),
      s.setService { s.service with sent := s.service.sent + n }) := by
  induction n generalizing s with
  | zero => rfl
  | succ n ih =>
    have hSend : s.busSend =
        (some (s.service.readBytes[s.service.sent]?.getD 0xFF), s.setService { s.service with sent := s.service.sent + 1 }) := by
      unfold State.busSend
      rw [if_pos h]
    have hRest := ih (s.setService { s.service with sent := s.service.sent + 1 }) h
    rw [State.sendBytes, hSend]
    dsimp only
    rw [hRest, List.range_succ_eq_map, List.map_cons, List.map_map]
    refine Prod.ext (congrArg (_ :: ·) (List.map_congr_left fun i _ => ?_)) ?_
    · show some (s.service.readBytes[s.service.sent + 1 + i]?.getD 0xFF) = some (s.service.readBytes[s.service.sent + (i + 1)]?.getD 0xFF)
      rw [Nat.add_assoc, Nat.add_comm 1]
    · show s.setService { s.service with sent := s.service.sent + 1 + n } = s.setService { s.service with sent := s.service.sent + (n + 1) }
      rw [Nat.add_assoc, Nat.add_comm 1]

theorem read_eq {s : State} (h : s.service.target ≠ .busy) (n : Nat) : s.read n =
    some ((List.range n).map fun i => some (s.service.readBytes[i]?.getD 0xFF), s.setService s.idlePort) := by
  unfold State.read
  rw [(busStart_of_own h).2]
  dsimp only
  rw [if_pos rfl, sendBytes_eq n _ rfl, (busStop_cases _).2.1 rfl]
  refine congrArg some (Prod.ext (List.map_congr_left fun i _ => ?_) rfl)
  show some (s.service.readBytes[0 + i]?.getD 0xFF) = _
  rw [Nat.zero_add]

/-! The table of request codes (R179) -/

theorem paramLength_eq (code : Byte) : paramLength code = (([(0x01, 1), (0x02, 3), (0x03, 1), (0x04, 2), (0x05, 0), (0x10, 1), (0x11, 1),
    (0x12, 1), (0x20, 0), (0x21, 0), (0x22, 1), (0x30, 1), (0x31, 1)] : List (Byte × Nat)).find? fun x => x.1 = code).map Prod.snd := by
  revert code
  decide

/-- The commands of the service port that arrive as a write of a known request carry its code, its length and its parameters. -/
theorem writeOf_shape {c : Instr} {code : Byte} {rest : List Byte} (h : writeOf c = some (code :: rest))
    (hc : ∀ bytes, c ≠ .unknown bytes) : ∃ n params, rest = n :: params ∧ n.toNat = params.length ∧ paramLength code = some params.length := by
  cases c with
  | unknown bytes => exact absurd rfl (hc bytes)
  | warmResetKeep | warmResetClear | getSetting | setSetting | readView | identify | fence | unfence | serviceClearMark | clearFaults =>
    obtain ⟨rfl, rfl⟩ := List.cons.inj (Option.some.inj h)
    exact ⟨_, _, rfl, rfl, rfl⟩
  | serviceRequestAccepted request =>
    cases request with
    | readSlot | freeze | thaw | retireBlock =>
      obtain ⟨rfl, rfl⟩ := List.cons.inj (Option.some.inj h)
      exact ⟨_, _, rfl, rfl, rfl⟩
  | _ => cases h

/-- While the port is BUSY no write is acknowledged, and no command that arrives as one does anything (R174, R178). -/
theorem exec_write_of_busy {c : Instr} {bytes : List Byte} {s : State} (h : s.service.target = .busy) (hw : writeOf c = some bytes) :
    exec c s = .next s := by
  cases c with
  | getSetting | setSetting | readView | identify | fence | unfence | serviceClearMark | clearFaults =>
    exact congrArg Host.Outcome.next (serviceEvent_of_busy _ _ h _)
  | warmResetKeep pins =>
    show execWarmResetKeep pins s = _
    rw [execWarmResetKeep, write_of_busy _ h]
  | warmResetClear pins =>
    show execWarmResetClear pins s = _
    rw [execWarmResetClear, write_of_busy _ h]
  | unknown bytes =>
    show execUnknown bytes s = _
    rw [execUnknown, write_of_busy _ h]
  | serviceRequestAccepted request =>
    show execServiceRequestAccepted request s = _
    rw [execServiceRequestAccepted, write_of_busy _ h]
  | _ => cases hw

/-! Writes that are no command's (R176, R184) -/

/-- The judgement of a whole write (R175, R176). -/
def judged (bytes : List Byte) : WriteJudgement := judgeWrite (bytes.take 16) (decide (16 < bytes.length))

/-- A write with too many bytes, or with another count than it says. -/
def Malformed (count : Byte) (params : List Byte) : Prop := 14 < params.length ∨ params.length ≠ count.toNat

theorem judged_of_malformed {code count : Byte} {params : List Byte} (h : Malformed count params) :
    judged (code :: count :: params) = .badFormat := by
  have hTake : (code :: count :: params).take 16 = code :: count :: params.take 14 := rfl
  have hLong : decide (16 < (code :: count :: params).length) = decide (14 < params.length) := by
    simp only [List.length_cons]
    exact decide_eq_decide.2 (by omega)
  unfold judged judgeWrite
  rw [hTake, hLong]
  refine if_pos ?_
  by_cases hl : 14 < params.length
  · exact .inl (decide_eq_true hl)
  · rw [List.take_of_length_le (Nat.not_lt.1 hl)]
    exact .inr (h.resolve_left hl)

theorem judged_of_wellFormed {code count : Byte} {params : List Byte} (h : ¬Malformed count params) :
    (paramLength code = none → judged (code :: count :: params) = .unknown) ∧
    ∀ n, paramLength code = some n → judged (code :: count :: params) = if count.toNat = n then .accepted else .badFormat := by
  obtain ⟨hl, hc⟩ := not_or.1 h
  have hTake : (code :: count :: params).take 16 = code :: count :: params :=
    congrArg (fun l => code :: count :: l) (List.take_of_length_le (Nat.not_lt.1 hl))
  have hLong : decide (16 < (code :: count :: params).length) = false := by
    simp only [List.length_cons]
    exact decide_eq_false (by omega)
  unfold judged judgeWrite
  rw [hTake, hLong]
  have hGo : ¬((false = true) ∨ params.length ≠ count.toNat) := fun hh => hh.elim nofun hc
  refine ⟨fun hp => ?_, fun n hp => ?_⟩
  · refine (if_neg hGo).trans ?_
    rw [hp]
  · refine (if_neg hGo).trans ?_
    rw [hp]

/-- The record of the port after a write that is judged `j`. -/
theorem write_of_judged {s : State} (h : s.service.target ≠ .busy) (bytes : List Byte) : s.write bytes = some (s.setService { s.service with
    target := if judged bytes = .accepted then .busy else .idle
    collection := [], overlong := false, sent := 0, result := (judged bytes).leaves s.service.result }) := by
  rw [write_eq bytes h]
  exact congrArg some (stopWrite_of_judged rfl)

/-- A write that is no command's, or another command's. -/
theorem exec_unknown_cases {s : State} (h : s.service.target ≠ .busy) (bytes : List Byte) :
    (judged bytes ≠ .accepted → exec (.unknown bytes) s =
      .next (s.setService { s.idlePort with result := (judged bytes).leaves s.service.result })) ∧
    (judged bytes = .accepted → exec (.unknown bytes) s =
      .next (if otherWarmReset bytes = true then s.withResult { status := .range } else s)) := by
  have hExec : exec (.unknown bytes) s = execUnknown bytes s := rfl
  rw [hExec, execUnknown, write_of_judged h]
  dsimp only
  refine ⟨fun hj => ?_, fun hj => ?_⟩
  · rw [if_neg hj, if_neg (by nofun)]
    rfl
  · rw [if_pos hj]
    refine congrArg Host.Outcome.next ((if_pos rfl).trans ?_)
    rw [hj]
    rfl

theorem otherWarmReset_iff {code count : Byte} {params : List Byte} : otherWarmReset (code :: count :: params) = true ↔
    ∃ option, params = [option] ∧ code = 0x31#8 ∧ count = 1#8 ∧ option ≠ 1#8 ∧ option ≠ 2#8 := by
  cases params with
  | nil => exact iff_of_false nofun fun ⟨_, h, _⟩ => nomatch h
  | cons option rest =>
    cases rest with
    | nil =>
      simp only [otherWarmReset, Bool.and_eq_true, decide_eq_true_eq, List.cons.injEq, and_true, and_assoc]
      exact ⟨fun h => ⟨option, rfl, h⟩, fun ⟨_, ho, h⟩ => ho ▸ h⟩
    | cons x rest => exact iff_of_false nofun fun ⟨_, h, _⟩ => nomatch h

theorem exec_requestAccepted {s : State} (h : s.service.target ≠ .busy) (request : GrantRequest) :
    exec (.serviceRequestAccepted request) s = .next { s with service := { s.service with
      target := .busy, collection := [], overlong := false, sent := 0, inProgress := some request, result := none } } := by
  have hExec : exec (.serviceRequestAccepted request) s = execServiceRequestAccepted request s := rfl
  obtain ⟨hLength, hCode⟩ := request_accepted request
  rw [hExec, execServiceRequestAccepted, write_of_accepted h hLength hCode]
  rfl

/-- Settles O57, by the bus events, the table of codes and the judgement of a write. -/
theorem serviceWritesAreJudged : Obligations.ServiceWritesAreJudged := by
  unfold Obligations.ServiceWritesAreJudged
  refine ⟨fun s a d => ⟨fun h => busStart_of_busy h a d, fun h ha => busStart_of_other h ha d, fun h ha => ?_⟩, busByte_cases,
    fun s => ⟨(busStop_cases s).1, (busStop_cases s).2.1, fun h hc => ?_⟩, fun s bytes h => write_eq_fold h bytes, fun s n => ?_, rfl,
    paramLength_eq, fun c code rest => writeOf_shape, fun c bytes s => exec_write_of_busy, fun s h => ?_⟩
  · subst ha
    cases d with
    | write => exact (busStart_of_own h).1
    | read => exact (busStart_of_own h).2
  · have hJudged : judgeWrite s.service.collection s.service.overlong = .ignored := by
      rw [hc]
      rfl
    rw [(busStop_cases s).2.2 h, stopWrite_of_judged hJudged]
    rfl
  · refine ⟨fun h => ?_, fun h => ?_⟩
    · rw [State.read, busStart_of_busy h]
      rfl
    · rw [read_eq h]
      cases hr : s.service.result with
      | none =>
        rw [ServicePort.readBytes, hr]
        rfl
      | some r =>
        rw [ServicePort.readBytes, hr]
        rfl
  · refine ⟨exec_requestAccepted h, (exec_unknown_cases h []).1 (by nofun), fun a => (exec_unknown_cases h [a]).1 (by nofun),
      fun code count params => ?_⟩
    obtain ⟨hRefused, hAccepted⟩ := exec_unknown_cases h (code :: count :: params)
    refine ⟨fun hm => ?_, fun hm hp => ?_, fun n hm hp hn => ?_, fun option ho hCode hCount h1 h2 => ?_, fun hm hp hNot => ?_⟩
    · rw [judged_of_malformed hm] at hRefused
      exact hRefused nofun
    · rw [(judged_of_wellFormed hm).1 hp] at hRefused
      exact hRefused nofun
    · rw [(judged_of_wellFormed hm).2 n hp, if_neg (Ne.symm hn)] at hRefused
      exact hRefused nofun
    · subst ho hCode hCount
      have hJudged : judged [0x31#8, 1#8, option] = .accepted := rfl
      rw [hAccepted hJudged, if_pos (otherWarmReset_iff.2 ⟨option, rfl, rfl, rfl, h1, h2⟩)]
    · rw [hAccepted (by rw [(judged_of_wellFormed hm).2 _ hp, if_pos rfl]), if_neg]
      rw [otherWarmReset_iff]
      rintro ⟨option, rfl, hCode, -, h1, h2⟩
      exact hNot ⟨hCode, fun hc => h1 (List.singleton_inj.1 hc), fun hc => h2 (List.singleton_inj.1 hc)⟩

end Sys2Proof.Machine
end

section
/-! PROOFS. The service requests that wait for a grant: FREEZE, THAW, RETIRE_BLOCK, READ_SLOT (R127 to R129, R164, R183). -/

-- The proofs are checked one after the other: run at once, their threads would exceed the memory bound of the check.
set_option Elab.async false

namespace Sys2Proof.Machine

/-! A grant to the service port's place -/

theorem serviceGrant_eq {s : State} {run : State → ServiceResult × State} {r : ServiceResult} {t : State}
    (h : run (s.beginGrant .service) = (r, t)) : s.serviceGrant run = t.served r := by
  unfold State.serviceGrant State.served
  rw [h]

theorem beginGrant_state (s : State) (pl : Place) : (s.beginGrant pl).engine.state = s.engine.state ∧
    (s.beginGrant pl).engine.rememberedFreeze = s.engine.rememberedFreeze := by simp

theorem exec_freeze (s : State) :
    (s.grantedService = some .freeze → exec .freeze s = .next (s.serviceGrant State.runFreeze)) ∧
    (s.grantedService ≠ some .freeze → exec .freeze s = .next s) := by
  have hExec : exec .freeze s = execFreeze s := rfl
  rw [hExec, execFreeze]
  refine ⟨fun h => by rw [h], fun h => ?_⟩
  split
  · next hg => exact absurd hg h
  · rfl

theorem exec_thaw (s : State) :
    (s.grantedService = some .thaw → exec .thaw s = .next (s.serviceGrant State.runThaw)) ∧
    (s.grantedService ≠ some .thaw → exec .thaw s = .next s) := by
  have hExec : exec .thaw s = execThaw s := rfl
  rw [hExec, execThaw]
  refine ⟨fun h => by rw [h], fun h => ?_⟩
  split
  · next hg => exact absurd hg h
  · rfl

theorem exec_retireBlock (s : State) :
    (∀ b, s.grantedService = some (.retireBlock b) → exec .retireBlock s = .next (s.serviceGrant (State.runRetireBlock b.toNat))) ∧
    ((∀ b, s.grantedService ≠ some (.retireBlock b)) → exec .retireBlock s = .next s) := by
  have hExec : exec .retireBlock s = execRetireBlock s := rfl
  rw [hExec, execRetireBlock]
  refine ⟨fun b h => by rw [h], fun h => ?_⟩
  split
  · next b hg => exact absurd hg (h b)
  · rfl

theorem exec_readSlot (w : SlotWear) (s : State) :
    (∀ n, s.grantedService = some (.readSlot n) → exec (.readSlot w) s = .next (s.serviceGrant (State.runReadSlot n.toNat w))) ∧
    ((∀ n, s.grantedService ≠ some (.readSlot n)) → exec (.readSlot w) s = .next s) := by
  have hExec : exec (.readSlot w) s = execReadSlot w s := rfl
  rw [hExec, execReadSlot]
  refine ⟨fun b h => by rw [h], fun h => ?_⟩
  split
  · next b hg => exact absurd hg (h b)
  · rfl

/-! FREEZE and THAW (R127 to R129) -/

theorem runFreeze_cases (s : State) :
    (s.engine.state = .ready → s.runFreeze =
      ({ status := .ok }, (s.setEngine { s.engine with state := .frozen }).raiseBoth .freezeChanged (some 2#32))) ∧
    (s.engine.state = .initializing → s.engine.rememberedFreeze = false → s.runFreeze =
      ({ status := .ok }, s.setEngine { s.engine with rememberedFreeze := true })) ∧
    (s.engine.state = .frozen ∨ (s.engine.state = .initializing ∧ s.engine.rememberedFreeze = true) →
      s.runFreeze = ({ status := .already }, s)) := by
  unfold State.runFreeze
  refine ⟨fun h => ?_, fun h hr => ?_, fun h => ?_⟩
  · rw [h]
    rfl
  · rw [h, hr]
    rfl
  · rcases h with h | ⟨h, hr⟩
    · rw [h]
    · rw [h, hr]
      rfl

theorem runThaw_cases (s : State) :
    (s.engine.state = .frozen → s.runThaw = ({ status := .ok },
      ((s.setEngine { s.engine with state := .ready }).raiseBoth .freezeChanged (some 1#32)).settle)) ∧
    (s.engine.state = .initializing → s.engine.rememberedFreeze = true → s.runThaw =
      ({ status := .ok }, s.setEngine { s.engine with rememberedFreeze := false })) ∧
    (s.engine.state = .ready ∨ (s.engine.state = .initializing ∧ s.engine.rememberedFreeze = false) →
      s.runThaw = ({ status := .already }, s)) := by
  unfold State.runThaw
  refine ⟨fun h => ?_, fun h hr => ?_, fun h => ?_⟩
  · rw [h]
    rfl
  · rw [h, hr]
    rfl
  · rcases h with h | ⟨h, hr⟩
    · rw [h]
    · rw [h, hr]
      rfl

/-! A block that is RETIRED stays so -/

theorem testProgress_retired {s : State} {b : Nat} (hb : (s.block b).state = .retired) :
    (s.testProgress.block b).state = .retired := by
  have hOther : ∀ c, s.inProgress = some c → b ≠ c := fun c hc he =>
    not_retired_of_inProgress (inProgress_of_some hc) (he ▸ hb)
  rcases testProgress_cases s with ⟨ht, -⟩ | ⟨c, -, -, -, ht⟩ | ⟨c, -, hc, -, ht⟩
  · rw [ht]
    exact hb
  · rw [ht, retire_block]
    split
    · rfl
    · exact hb
  · rw [ht, setBlockState_block, if_neg fun hh => hOther c hc hh.1]
    exact hb

theorem settleWithin_retired (fuel : Nat) {s : State} (h : RetirementLaw s) {b : Nat} (hb : (s.block b).state = .retired) :
    ((s.settleWithin fuel).block b).state = .retired :=
  (settleWithin_induction (P := fun t => RetirementLaw t ∧ (t.block b).state = .retired) (Q := fun _ => True)
    (fun _ ht => ⟨⟨ht.1.testProgress, testProgress_retired ht.2⟩, trivial⟩)
    (fun _ c _ ht _ hNone hq => by
      obtain ⟨-, hService⟩ := ht.1.2.2.2.1 c (by rw [hq]; exact List.mem_cons_self)
      refine ⟨ht.1.enterClosing hNone hq, ?_⟩
      rw [enterClosing_block, if_neg]
      · exact ht.2
      · rintro ⟨rfl, -⟩
        rw [ht.2] at hService
        cases hService) fuel ⟨h, hb⟩).1.2

theorem settle_retired {s : State} (h : RetirementLaw s) {b : Nat} (hb : (s.block b).state = .retired) :
    (s.settle.block b).state = .retired := settleWithin_retired _ h hb

theorem enterIfDue_retired {s : State} (h : RetirementLaw s) {b : Nat} (hb : (s.block b).state = .retired) :
    (s.enterIfDue.block b).state = .retired := by
  unfold State.enterIfDue
  split
  · exact settle_retired h hb
  · exact hb

/-- A block in progress without a live entry is RETIRED by the tests (R169). -/
theorem settle_retires {s : State} (h : RetirementLaw s) (hReady : s.engine.state = .ready) {b : Nat} (hb : s.inProgress = some b)
    (h0 : s.integrity.reserve = 0) : (s.settle.block b).state = .retired := by
  rcases testProgress_of_some hReady hb with ⟨-, ht⟩ | ⟨hPos, -⟩
  · have hRetired : (s.testProgress.block b).state = .retired := by
      rw [ht, retire_block, if_pos ⟨rfl, lt_of_inProgress (inProgress_of_some hb)⟩]
    rw [settle_eq]
    exact enterIfDue_retired h.testProgress hRetired
  · exact absurd h0 (Nat.ne_of_gt hPos)

/-- With live entries left, the tests choose between MOVING and CLOSING (R166). -/
theorem settle_progresses {s : State} (hReady : s.engine.state = .ready) {b : Nat} (hb : s.inProgress = some b)
    (hPos : 0 < s.integrity.reserve) :
    s.settle = s.setBlockState b (if s.integrity.reserve ≤ s.pooled then .moving else .closing) := by
  rcases testProgress_of_some hReady hb with ⟨h0, -⟩ | ⟨-, ht⟩
  · exact absurd h0 (Nat.ne_of_gt hPos)
  · have hKept := setProgress_inProgress hb (movingOrClosing_inProgress (s.integrity.reserve ≤ s.pooled))
    rw [settle_eq, ht]
    exact enterIfDue_of_not_due (Bool.eq_false_iff.2 fun hDue => by
      have hNone := (closingDue_iff.1 hDue).2.1
      rw [hKept] at hNone
      cases hNone)

/-- Settles O58, by the engine's state at the grant and the tests of a settled retirement. -/
theorem freezeAndThawMoveTheEngine : Obligations.FreezeAndThawMoveTheEngine := by
  unfold Obligations.FreezeAndThawMoveTheEngine
  refine ⟨fun s => ?_, fun x h hReady => ⟨fun hNone hEmpty => ?_, fun b hb hPos => settle_progresses hReady hb hPos,
    fun b hb h0 => settle_retires h hReady hb h0, fun b rest hNone hQueue => ?_⟩⟩
  · obtain ⟨hState, hRemembered⟩ := beginGrant_state s .service
    obtain ⟨f1, f2, f3⟩ := runFreeze_cases (s.beginGrant .service)
    obtain ⟨t1, t2, t3⟩ := runThaw_cases (s.beginGrant .service)
    rw [hState, hRemembered] at f2 f3 t2 t3
    rw [hState] at f1 t1
    refine ⟨fun hg => ?_, fun hg => ?_, (exec_freeze s).2, (exec_thaw s).2⟩
    · rw [(exec_freeze s).1 hg]
      exact ⟨fun h => congrArg Host.Outcome.next (serviceGrant_eq (f1 h)),
        fun h hr => congrArg Host.Outcome.next (serviceGrant_eq (f2 h hr)), fun h => congrArg Host.Outcome.next (serviceGrant_eq (f3 h))⟩
    · rw [(exec_thaw s).1 hg]
      exact ⟨fun h => congrArg Host.Outcome.next (serviceGrant_eq (t1 h)),
        fun h hr => congrArg Host.Outcome.next (serviceGrant_eq (t2 h hr)), fun h => congrArg Host.Outcome.next (serviceGrant_eq (t3 h))⟩
  · rw [settle_of_empty hEmpty, testProgress_of_idle (.inr hNone)]
  · have hDue : x.closingDue = true := closingDue_iff.2 ⟨hReady, hNone, by rw [hQueue]; nofun⟩
    rw [settle_eq, testProgress_of_due hDue]
    obtain ⟨-, hNot, hState, hPool⟩ := leaves_enterIfDue h hDue hQueue
    exact ⟨hNot, hState, hPool⟩

end Sys2Proof.Machine
end

section
/-! PROOFS. RETIRE_BLOCK and READ_SLOT at their grants (R163 to R166, R169, R183, R203). -/

-- The proofs are checked one after the other: run at once, their threads would exceed the memory bound of the check.
set_option Elab.async false

namespace Sys2Proof.Machine

/-- The low-water test tells the same from states that tell alike. -/
theorem LowWater.of_alike {s v y : State} {n : Nat} (h : LowWater v y n) (ha : Alike s v) (hEngine : v.engine = s.engine)
    (hSettings : v.settings = s.settings) : LowWater s y n := by
  unfold LowWater at h ⊢
  rw [hEngine, hSettings, raiseBoth_alike ha, ha.notices, ha.links] at h
  exact h

theorem enqueued_alike (s : State) (b : Nat) : Alike s (s.enqueued b) := .of_sessions rfl rfl rfl

/-! RETIRE_BLOCK (R163 to R166, R169) -/

/-- A block that has joined an empty queue enters CLOSING at once if it may (R165). -/
theorem enqueued_enterIfDue {s : State} {b : Nat} (hReady : s.engine.state = .ready) (hNone : s.inProgress = none)
    (hEmpty : s.integrity.retireQueue = []) (hlt : b < 16) : EntersClosing (s.enqueued b) (s.enqueued b).enterIfDue b [] := by
  have hQueue : (s.enqueued b).integrity.retireQueue = [b] := congrArg (· ++ [b]) hEmpty
  have hNone' : (s.enqueued b).inProgress = none := (inProgress_of_blocks rfl).trans hNone
  have hDue : (s.enqueued b).closingDue = true := closingDue_iff.2 ⟨hReady, hNone', by rw [hQueue]; nofun⟩
  rw [enterIfDue_of_due hDue hQueue, settle_of_empty (enterClosing_queue ..)]
  exact entersClosing_of_due hDue hlt []

theorem enqueued_waits {s : State} {b : Nat} (h : s.engine.state = .frozen ∨ s.inProgress.isSome = true) :
    (s.enqueued b).enterIfDue = s.enqueued b := by
  refine enterIfDue_of_not_due (Bool.eq_false_iff.2 fun hDue => ?_)
  obtain ⟨hReady, hNone, -⟩ := closingDue_iff.1 hDue
  rcases h with h | h
  · exact absurd (h.symm.trans hReady) nofun
  · have hNone' : s.inProgress = none := (inProgress_of_blocks rfl).trans hNone
    rw [hNone'] at h
    cases h

theorem runRetireBlock_cases (n : Nat) (s : State) :
    (s.engine.state = .initializing → s.runRetireBlock n = ({ status := .notReady }, s)) ∧
    (s.engine.state ≠ .initializing → 16 ≤ n → s.runRetireBlock n = ({ status := .range }, s)) ∧
    (s.engine.state ≠ .initializing → n < 16 → (s.block n).state ≠ .inService ∨ n ∈ s.integrity.retireQueue →
      s.runRetireBlock n = ({ status := .already }, s)) ∧
    (s.engine.state ≠ .initializing → n < 16 → ¬((s.block n).state ≠ .inService ∨ n ∈ s.integrity.retireQueue) → 4 ≤ s.retirementCount →
      s.runRetireBlock n = ({ status := .limit }, s)) ∧
    (s.engine.state ≠ .initializing → n < 16 → ¬((s.block n).state ≠ .inService ∨ n ∈ s.integrity.retireQueue) → s.retirementCount < 4 →
      s.runRetireBlock n = ({ status := .ok }, (s.enqueued n).enterIfDue)) := by
  unfold State.runRetireBlock
  refine ⟨fun h => if_pos h, fun h hn => ?_, fun h hn ht => ?_, fun h hn ht hc => ?_, fun h hn ht hc => ?_⟩
  · exact (if_neg h).trans (if_pos hn)
  · exact (if_neg h).trans ((if_neg (Nat.not_le.2 hn)).trans (if_pos ht))
  · exact (if_neg h).trans ((if_neg (Nat.not_le.2 hn)).trans ((if_neg ht).trans (if_pos hc)))
  · refine (if_neg h).trans ((if_neg (Nat.not_le.2 hn)).trans ((if_neg ht).trans ((if_neg (Nat.not_le.2 hc)).trans ?_)))
    have hFree : (s.block n).state = .inService ∧ n ∉ s.integrity.retireQueue := by
      obtain ⟨hState, hQueue⟩ := not_or.1 ht
      exact ⟨Classical.not_not.1 hState, hQueue⟩
    rw [State.queueBlock, if_pos hFree, if_pos (show s.retirementCount < Config.retireLimit from hc)]
    rfl

/-- Settles O59, by the checks of RETIRE_BLOCK and the entry of the block to CLOSING. -/
theorem retireBlockQueuesOrCloses : Obligations.RetireBlockQueuesOrCloses := by
  unfold Obligations.RetireBlockQueuesOrCloses
  refine ⟨fun s => (exec_retireBlock s).2, fun b s hg => ?_⟩
  obtain ⟨hState, -⟩ := beginGrant_state s .service
  obtain ⟨r1, r2, r3, r4, r5⟩ := runRetireBlock_cases b.toNat (s.beginGrant .service)
  rw [hState] at r1 r2 r3 r4 r5
  rw [(exec_retireBlock s).1 b hg]
  refine ⟨fun h => congrArg Host.Outcome.next (serviceGrant_eq (r1 h)), fun h hn => congrArg Host.Outcome.next (serviceGrant_eq (r2 h hn)),
    fun h hn ht => congrArg Host.Outcome.next (serviceGrant_eq (r3 h hn ht)),
    fun h hn ht hc => congrArg Host.Outcome.next (serviceGrant_eq (r4 h hn ht hc)), fun h hn ht hc => ⟨fun hw => ?_, fun hReady hNone hEmpty => ?_⟩⟩
  · rw [serviceGrant_eq (r5 h hn ht hc), enqueued_waits (by rw [hState]; exact hw)]
    rfl
  · refine ⟨((s.beginGrant .service).enqueued b.toNat).enterIfDue, congrArg Host.Outcome.next (serviceGrant_eq (r5 h hn ht hc)), ?_⟩
    obtain ⟨hJournal, hIntegrity, hHere, hThere, hFrame, hTold⟩ := enqueued_enterIfDue (hState.trans hReady) hNone hEmpty hn
    have hFields := congrArg (fun x : State => (x.sessions, x.sweeper, x.arbiter, x.faults, x.service)) hFrame
    obtain ⟨hSessions, hSweeper, hArbiter, hFaults, hService⟩ := by simpa only [Prod.mk.injEq] using hFields
    obtain ⟨z, hz, hEngine, hLow, hSame, hQuiet, hRetired⟩ := hTold
    refine ⟨by rw [hIntegrity], by rw [hIntegrity]; rfl, hJournal, by rw [hHere]; rfl, by rw [hHere]; rfl, hThere, hSessions, hSweeper,
      hArbiter, hFaults, hService, (enterIfDue_frame _).2.2.2.2.2.2.2.2.1.trans (hState.trans hReady), z, hz, hEngine, fun hFall => ?_,
      hSame, hQuiet, hRetired⟩
    exact (hLow hFall).of_alike (enqueued_alike _ _) rfl rfl

/-! READ_SLOT (R183, R203) -/

/-- The fields of a live slot's entry in the report. -/
def entryFields (k : RegionKey) (e : EntryBody) : List (Nat × Nat) :=
  [(1, k.volume.toNat), (4, k.region.toNat), (1, entryStateCode e.state), (1, holdCount e.holdA),
   (2, (e.holdA.map fun y => y.epoch.toNat).getD 0), (1, holdCount e.holdB), (2, (e.holdB.map fun y => y.epoch.toNat).getD 0),
   (1, bitIf e.lostHolder 0 + bitIf e.damaged 1), (8, e.stamp.toNat), (1, e.note.length), (4, (e.note[0]?.getD 0).toNat),
   (4, (e.note[1]?.getD 0).toNat), (1, (e.adopter.map fun a => portCode a.port).getD 0xFF), (2, (e.adopter.map fun a => a.epoch.toNat).getD 0)]

theorem entryReport_eq (k : RegionKey) (e : EntryBody) : entryReport k e = layout (entryFields k e) := by
  unfold entryReport
  simp only [List.append_assoc]
  rfl

theorem slotReport_cases (t : State) (n : Nat) (o : ReadOutcome) :
    (∀ k e, t.keyAt n = some k → t.entryAt n = some e → t.slotReport n o = layout
      ([(1, voteCode o.vote), (1, eccCode o.ecc), (1, (t.condition n).code), (1, (t.block (n / 64)).state.code)] ++ entryFields k e)) ∧
    (t.keyAt n = none → t.slotReport n o = layout
      ([(1, voteCode o.vote), (1, eccCode o.ecc), (1, (t.condition n).code), (1, (t.block (n / 64)).state.code)] ++
        [(30, 0), (1, 0xFF), (2, 0)])) := by
  unfold State.slotReport
  refine ⟨fun k e hk he => ?_, fun hk => ?_⟩
  · rw [hk, he, layout_append, ← entryReport_eq]
    simp only [List.append_assoc]
    rfl
  · rw [hk, layout_append]
    simp only [List.append_assoc]
    rfl

theorem runReadSlot_cases (n : Nat) (w : SlotWear) (s : State) :
    (s.engine.state = .initializing → s.runReadSlot n w = ({ status := .notReady }, s)) ∧
    (s.engine.state ≠ .initializing → 1024 ≤ n → s.runReadSlot n w = ({ status := .range }, s)) ∧
    (s.engine.state ≠ .initializing → n < 1024 → s.runReadSlot n w =
      ({ status := .ok, data := (s.readRaw n w).slotReport n (s.readOutcome n w) }, s.readRaw n w)) := by
  unfold State.runReadSlot
  refine ⟨fun h => if_pos h, fun h hn => (if_neg h).trans (if_pos hn), fun h hn => ?_⟩
  exact (if_neg h).trans (if_neg (Nat.not_le.2 hn))

/-- Settles O60, by the checks of READ_SLOT and the layout of its report. -/
theorem readSlotReportsTheSlot : Obligations.ReadSlotReportsTheSlot := by
  unfold Obligations.ReadSlotReportsTheSlot
  refine ⟨fun w s => (exec_readSlot w s).2, fun h w s hg => ?_⟩
  obtain ⟨hState, -⟩ := beginGrant_state s .service
  obtain ⟨r1, r2, r3⟩ := runReadSlot_cases h.toNat w (s.beginGrant .service)
  rw [hState] at r1 r2 r3
  rw [(exec_readSlot w s).1 h hg]
  refine ⟨fun hi => congrArg Host.Outcome.next (serviceGrant_eq (r1 hi)),
    fun hi hn => congrArg Host.Outcome.next (serviceGrant_eq (r2 hi hn)), fun hi hn => ?_⟩
  obtain ⟨hLive, hFree⟩ := slotReport_cases ((s.beginGrant .service).readRaw h.toNat w) h.toNat ((s.beginGrant .service).readOutcome h.toNat w)
  rw [serviceGrant_eq (run := State.runReadSlot h.toNat w) (r3 hi hn)]
  refine ⟨fun k e hk he => ?_, fun hk => ?_⟩
  · rw [hLive k e hk he]
    rfl
  · rw [hFree hk]

end Sys2Proof.Machine
end

section
/-! PROOFS. The scrubber and the sweeper (R86, R87, R131, R171). -/

-- The proofs are checked one after the other: run at once, their threads would exceed the memory bound of the check.
set_option Elab.async false

namespace Sys2Proof.Machine

/-! The scrubber (R131, R171) -/

/-- A part whose retirements follow the law has a block that is not RETIRED. -/
theorem exists_not_retired {s : State} (h : RetirementLaw s) : ∃ b, b < 16 ∧ (s.block b).state ≠ .retired := by
  refine Classical.byContradiction fun hNone => ?_
  have hAll : ∀ b ∈ List.range 16, (s.block b).state = .retired := fun b hb => by
    refine Classical.byContradiction fun hc => ?_
    exact hNone ⟨b, List.mem_range.1 hb, hc⟩
  have hCount : s.retiredCount = 16 := by
    unfold State.retiredCount
    exact (List.countP_eq_length.2 fun b hb => decide_eq_true (hAll b hb))
  have hLimit : s.retirementCount ≤ 4 := h.2.2.2.2.1
  rw [State.retirementCount, hCount] at hLimit
  omega

theorem blockRetired_eq_false {s : State} {b : Nat} : (!s.blockRetired b) = true ↔ (s.block b).state ≠ .retired := by
  rw [State.blockRetired, Bool.not_eq_true', decide_eq_false_iff_not]

/-- The first block behind `b` that is not RETIRED, and the blocks that are passed over. -/
theorem blocksAfter_find {s : State} {b : Nat} (hb : b < 16) (hRetired : (s.block b).state = .retired)
    (hSome : ∃ c, c < 16 ∧ (s.block c).state ≠ .retired) : ∃ d, 1 ≤ d ∧ d < 16 ∧
      ((blocksAfter b).find? fun c => !s.blockRetired c) = some ((b + d) % 16) ∧ (s.block ((b + d) % 16)).state ≠ .retired ∧
      ∀ i, 1 ≤ i → i < d → (s.block ((b + i) % 16)).state = .retired := by
  have hFind : ((blocksAfter b).find? fun c => !s.blockRetired c) =
      ((List.range 16).find? fun i => !s.blockRetired ((b + 1 + i) % 16)).map fun i => (b + 1 + i) % 16 := List.find?_map ..
  cases hi : (List.range 16).find? fun i => !s.blockRetired ((b + 1 + i) % 16) with
  | none =>
    obtain ⟨c, hc, hNot⟩ := hSome
    have hAt := List.find?_eq_none.1 hi ((c + 15 - b) % 16) (List.mem_range.2 (Nat.mod_lt _ (by decide)))
    have hPlace : (b + 1 + (c + 15 - b) % 16) % 16 = c := by omega
    rw [hPlace, blockRetired_eq_false] at hAt
    exact absurd hNot hAt
  | some i =>
    obtain ⟨hNot, hlt, hPassed⟩ := List.find?_range_eq_some.1 hi
    rw [blockRetired_eq_false] at hNot
    have hd : i ≠ 15 := by
      rintro rfl
      have hBack : (b + 1 + 15) % 16 = b := by omega
      rw [hBack] at hNot
      exact hNot hRetired
    have hRange := List.mem_range.1 hlt
    refine ⟨i + 1, Nat.le_add_left .., by omega, ?_, ?_, fun j h1 hj => ?_⟩
    · rw [hFind, hi, Option.map_some, Nat.add_assoc, Nat.add_comm 1 i]
    · rw [Nat.add_comm i 1, ← Nat.add_assoc]
      exact hNot
    · have hPass := hPassed (j - 1) (by omega)
      have hAt : b + 1 + (j - 1) = b + j := by omega
      rw [hAt] at hPass
      refine Classical.byContradiction fun hc => ?_
      rw [blockRetired_eq_false.2 hc] at hPass
      cases hPass

theorem scrubSlot_cases {s : State} (h : RetirementLaw s) (hPos : s.integrity.scrubPosition < 1024) :
    ((s.block (s.integrity.scrubPosition / 64)).state ≠ .retired → s.scrubSlot = s.integrity.scrubPosition) ∧
    ((s.block (s.integrity.scrubPosition / 64)).state = .retired → ∃ d, 1 ≤ d ∧ d < 16 ∧
      s.scrubSlot = (s.integrity.scrubPosition / 64 + d) % 16 * 64 ∧
      (s.block ((s.integrity.scrubPosition / 64 + d) % 16)).state ≠ .retired ∧
      ∀ i, 1 ≤ i → i < d → (s.block ((s.integrity.scrubPosition / 64 + i) % 16)).state = .retired) := by
  unfold State.scrubSlot
  refine ⟨fun hNot => if_neg fun hc => hNot (of_decide_eq_true hc), fun hRetired => ?_⟩
  obtain ⟨d, h1, h16, hFind, hNot, hPassed⟩ := blocksAfter_find (by omega) hRetired (exists_not_retired h)
  refine ⟨d, h1, h16, (if_pos (decide_eq_true hRetired)).trans ?_, hNot, hPassed⟩
  show (match (blocksAfter (s.integrity.scrubPosition / 64)).find? fun c => !s.blockRetired c with
    | some b => b * Config.slotsPerBlock
    | none => s.integrity.scrubPosition) = _
  rw [hFind]
  rfl

theorem exec_scrubRead (w : SlotWear) (s : State) :
    (s.nextGrant = some .scrubber → exec (.scrubRead w) s = .next (((s.beginScrub.readSlot s.beginScrub.scrubSlot w).setIntegrity
      { (s.beginScrub.readSlot s.beginScrub.scrubSlot w).integrity with
        scrubPosition := (s.beginScrub.scrubSlot + 1) % 1024 }).finish)) ∧
    (s.nextGrant ≠ some .scrubber → exec (.scrubRead w) s = .next s) := by
  have hExec : exec (.scrubRead w) s = execScrubRead w s := rfl
  rw [hExec, execScrubRead]
  exact ⟨fun h => congrArg Host.Outcome.next (if_pos h), fun h => congrArg Host.Outcome.next (if_neg h)⟩

/-! The sweeper (R86, R87) -/

/-- The state after the sweeper has passed one slot. -/
theorem advanceSweep_eq {s x : State} (hSweeper : x.sweeper = s.sweeper) (hPending : s.sweeper.pending = true) : x.advanceSweep = { x with
    sweeper := { s.sweeper with
      position := (s.sweeper.position + 1) % 1024
      pending := decide ((s.sweeper.position + 1) % 1024 ≠ s.sweeper.endMarker) }
    arbiter := { x.arbiter with sweepRequest := false } } := by
  have hPass : (if (s.sweeper.position + 1) % 1024 = s.sweeper.endMarker then false else s.sweeper.pending) =
      decide ((s.sweeper.position + 1) % 1024 ≠ s.sweeper.endMarker) := by
    by_cases h : (s.sweeper.position + 1) % 1024 = s.sweeper.endMarker
    · rw [if_pos h, decide_eq_false (Classical.not_not.2 h)]
    · rw [if_neg h, decide_eq_true h, hPending]
  unfold State.advanceSweep
  rw [hSweeper]
  exact congrArg (fun pending => ({ x with
    sweeper := { s.sweeper with position := (s.sweeper.position + 1) % 1024, pending := pending }
    arbiter := { x.arbiter with sweepRequest := false } } : State)) hPass

theorem exec_sweepStep (w : SlotWear) (s : State) :
    (s.nextGrant = some (.place .sweeper) → exec (.sweepStep w) s = .next (if (s.beginGrant .sweeper).condition s.sweeper.position = .live
      then (s.beginGrant .sweeper).readSlot s.sweeper.position w else s.beginGrant .sweeper).advanceSweep.finish) ∧
    (s.nextGrant ≠ some (.place .sweeper) → exec (.sweepStep w) s = .next s) := by
  have hExec : exec (.sweepStep w) s = execSweepStep w s := rfl
  have hPosition : (s.beginGrant .sweeper).sweeper.position = s.sweeper.position := by simp
  rw [hExec, execSweepStep]
  refine ⟨fun h => congrArg Host.Outcome.next ((if_pos h).trans ?_), fun h => congrArg Host.Outcome.next (if_neg h)⟩
  dsimp only
  rw [hPosition]

theorem exec_sweepAdvance (s : State) :
    (s.sweeper.pending = true → s.engine.state ≠ .initializing → s.condition s.sweeper.position ≠ .live → s.arbiter.sweepRequest = false →
      exec .sweepAdvance s = .next s.advanceSweep) ∧
    (s.sweeper.pending = false ∨ s.engine.state = .initializing ∨ s.condition s.sweeper.position = .live ∨ s.arbiter.sweepRequest = true →
      exec .sweepAdvance s = .next s) := by
  have hTest : (s.sweeper.pending && s.running && decide (s.condition s.sweeper.position ≠ .live) && !s.arbiter.sweepRequest) = true ↔
      s.sweeper.pending = true ∧ s.engine.state ≠ .initializing ∧ s.condition s.sweeper.position ≠ .live ∧ s.arbiter.sweepRequest = false := by
    rw [State.running]
    simp only [Bool.and_eq_true, decide_eq_true_eq, Bool.not_eq_true', and_assoc]
  have hExec : exec .sweepAdvance s = execSweepAdvance s := rfl
  rw [hExec, execSweepAdvance]
  refine ⟨fun h1 h2 h3 h4 => congrArg Host.Outcome.next (if_pos (hTest.2 ⟨h1, h2, h3, h4⟩)), fun h => congrArg Host.Outcome.next (if_neg ?_)⟩
  rw [hTest]
  rintro ⟨h1, h2, h3, h4⟩
  rcases h with h | h | h | h
  · rw [h1] at h
    cases h
  · exact h2 h
  · exact h3 h
  · rw [h4] at h
    cases h

theorem beginGrant_condition_live (s : State) (pl : Place) (n : Nat) :
    (s.beginGrant pl).condition n = .live ↔ s.condition n = .live := by
  have hAssoc : (s.beginGrant pl).assoc n = s.assoc n := by
    unfold State.assoc
    simp
  have hLive : ∀ x : State, x.condition n = .live ↔ x.assoc n ≠ none := fun x => by
    rw [condition_eq]
    by_cases h : x.assoc n ≠ none
    · rw [if_pos h]
      exact iff_of_true rfl h
    · rw [if_neg h]
      refine iff_of_false ?_ h
      split <;> nofun
  rw [hLive, hLive, hAssoc]

/-- Settles O50, by the slot that a scrub grant reads and the pass of the sweeper over one slot. -/
theorem scrubberAndSweeperWalkTheSlots : Obligations.ScrubberAndSweeperWalkTheSlots := by
  unfold Obligations.ScrubberAndSweeperWalkTheSlots
  intro s w h
  obtain ⟨-, -, -, -, -, -, -, ⟨-, -, -, -, -, -, -, hScrubAt⟩, -, -, -, hLaw, -⟩ := h
  refine ⟨fun hGrant => ⟨(enterIfDue_frame _).2.1, s.beginScrub.scrubSlot, (exec_scrubRead w s).1 hGrant, ?_⟩,
    ⟨fun hGrant => ?_, fun h1 h2 h3 h4 => ?_⟩, (exec_scrubRead w s).2, (exec_sweepStep w s).2, (exec_sweepAdvance s).2⟩
  · have hScrub : RetirementLaw s.beginScrub := RetirementLaw.enterIfDue (s := s.setArbiter _) hLaw
    have hPos : s.beginScrub.integrity.scrubPosition = s.integrity.scrubPosition := (enterIfDue_frame _).2.2.2.2.2.2.2.2.2.2.2.2.2.1
    have hCases := scrubSlot_cases hScrub (by rw [hPos]; exact hScrubAt)
    rw [hPos] at hCases
    exact hCases
  · obtain ⟨-, ⟨hPending, -⟩, -⟩ := (nextGrant_place_iff hLaw .sweeper).1 hGrant
    refine ((exec_sweepStep w s).1 hGrant).trans ?_
    dsimp only
    by_cases hLive : s.condition s.sweeper.position = .live
    · rw [if_pos hLive, if_pos ((beginGrant_condition_live s .sweeper _).2 hLive), advanceSweep_eq (s := s) (by simp) hPending]
    · rw [if_neg hLive, if_neg fun hc => hLive ((beginGrant_condition_live s .sweeper _).1 hc), advanceSweep_eq (s := s) (by simp) hPending]
  · rw [(exec_sweepAdvance s).1 h1 h2 h3 h4, advanceSweep_eq rfl h1]

end Sys2Proof.Machine
end

section
/-! PROOFS. The initialiser (R124, R129, R131, R154). -/

-- The proofs are checked one after the other: run at once, their threads would exceed the memory bound of the check.
set_option Elab.async false

namespace Sys2Proof.Machine

/-! With no session open nothing is told (R142, R144) -/

theorem lowWaterTest_of_closed {s : State} (h : ∀ p, s.isOpen p = false) :
    s.lowWaterTest.notices = s.notices ∧ s.lowWaterTest.links = s.links := by
  rcases lowWaterTest_cases s with ⟨-, -, ht⟩ | ⟨-, ht⟩
  · rw [ht, raiseBoth_of_closed (s := { s with engine := { s.engine with armed := false } }) rfl h]
    exact ⟨rfl, rfl⟩
  · rw [ht]
    exact ⟨rfl, rfl⟩

theorem enterClosing_of_closed {s : State} (h : ∀ p, s.isOpen p = false) (b : Nat) (rest : List Nat) :
    (s.enterClosing b rest).notices = s.notices ∧ (s.enterClosing b rest).links = s.links := by
  rw [enterClosing_eq]
  split
  · exact lowWaterTest_of_closed (s := s.withdrawn b rest) h
  · exact ⟨rfl, rfl⟩

theorem enterIfDue_of_closed {s : State} (h : ∀ p, s.isOpen p = false) :
    s.enterIfDue.notices = s.notices ∧ s.enterIfDue.links = s.links := by
  have hSettle : ∀ fuel, (s.settleWithin fuel).sessions = s.sessions ∧ (s.settleWithin fuel).notices = s.notices ∧
      (s.settleWithin fuel).links = s.links := fun fuel =>
    (settleWithin_induction (P := fun t => t.sessions = s.sessions ∧ t.notices = s.notices ∧ t.links = s.links) (Q := fun _ => True)
      (fun t ⟨hSessions, hNotices, hLinks⟩ => by
        rw [testProgress_of_closed fun p => (isOpen_of_sessions hSessions p).trans (h p)]
        exact ⟨⟨hSessions, hNotices, hLinks⟩, trivial⟩)
      (fun t b rest ⟨hSessions, hNotices, hLinks⟩ _ _ _ => by
        obtain ⟨hNotices', hLinks'⟩ := enterClosing_of_closed (fun p => (isOpen_of_sessions hSessions p).trans (h p)) b rest
        exact ⟨(enterClosing_frame t b rest).1.trans hSessions, hNotices'.trans hNotices, hLinks'.trans hLinks⟩) fuel ⟨rfl, rfl, rfl⟩).1
  unfold State.enterIfDue
  split
  · exact (hSettle _).2
  · exact ⟨rfl, rfl⟩

theorem finish_of_closed {s : State} (h : ∀ p, s.isOpen p = false) (hHeld : s.notices.held = none) (hTimer : s.notices.repeatTimer = none) :
    s.finish = s := by
  have hCondition : s.repeatCondition = false := by
    unfold State.repeatCondition
    rw [h, h]
    rfl
  have hRelease : s.releaseNotices = s := by
    rw [State.releaseNotices, hHeld]
    show { s with notices := { s.notices with held := none } } = s
    rw [← hHeld]
  rw [State.finish, hRelease, (judgeRepeat_cases s).2.2 hCondition, ← hTimer]

/-! The advance (R124) -/

/-- An INITIALISING part tells nothing to anybody. -/
structure Starting (s : State) : Prop where
  state : s.engine.state = .initializing
  closed : ∀ p, s.isOpen p = false
  held : s.notices.held = none
  timer : s.notices.repeatTimer = none
  idle : s.inProgress = none

theorem starting_of_lawful {s : State} (h : Lawful s) (hs : s.engine.state = .initializing) : Starting s := by
  obtain ⟨-, -, hSessions, -, -, -, ⟨hTimer, hHeld⟩, -, -, -, -, -, -, -, -, hIdle, -⟩ := h
  have hClosed : ∀ p, s.isOpen p = false := fun p => (hSessions p).2.2.2.2.2 hs
  refine ⟨hs, hClosed, hHeld, ?_, hIdle hs⟩
  cases ht : s.notices.repeatTimer with
  | none => rfl
  | some n =>
    obtain ⟨p, hp, -⟩ := hTimer.1 (by rw [ht]; rfl)
    rw [hClosed p] at hp
    cases hp

theorem advanceInit_eq_initAdvanced {s : State} (h : Starting s) : s.advanceInit = s.initAdvanced := by
  rw [advanceInit_eq, State.initAdvanced]
  by_cases hEnd : s.engine.initPos < 1023
  · rw [if_neg (by omega), if_pos hEnd]
    rfl
  · rw [if_pos (by omega), if_neg hEnd]
    cases hr : s.engine.rememberedFreeze with
    | true =>
      rw [if_pos rfl, raiseBoth_of_closed (s := s.initEnded .frozen) rfl h.closed]
      rfl
    | false => rfl

theorem initAdvanced_parts (s : State) : s.initAdvanced.sessions = s.sessions ∧ s.initAdvanced.notices = s.notices ∧
    s.initAdvanced.links = s.links ∧ s.initAdvanced.journal = s.journal ∧ s.initAdvanced.integrity.blocks = s.integrity.blocks ∧
    s.initAdvanced.integrity.retireQueue = s.integrity.retireQueue ∧ s.initAdvanced.arbiter.pointer = s.arbiter.pointer ∧
    s.initAdvanced.freeCount = s.freeCount := by
  unfold State.initAdvanced
  split <;> exact ⟨rfl, rfl, rfl, rfl, rfl, rfl, rfl, rfl⟩

theorem initAdvanced_stored (s : State) (m : Nat) :
    s.initAdvanced.stored m = s.stored m ∧ s.initAdvanced.enterIfDue.stored m = s.stored m := by
  obtain ⟨-, -, -, hJournal, -, -, -, hFree⟩ := initAdvanced_parts s
  obtain ⟨-, -, hStore, -, -, -, -, -, -, -, -, -, -, -, -, -, -, -, hFree', -⟩ := enterIfDue_frame s.initAdvanced
  unfold State.stored
  rw [hStore, hFree', hJournal, hFree]
  exact ⟨rfl, rfl⟩

/-- What an advance of the initialiser's position leaves, the position having been `pos` (R124, R129, R131, R154). -/
def Advanced (s t : State) (pos : Nat) : Prop :=
  t.engine.initPos = pos + 1 ∧
  (pos < 1023 → t.engine.state = .initializing ∧ t.engine.rememberedFreeze = s.engine.rememberedFreeze ∧
    t.integrity = s.integrity ∧ t.notices = s.notices ∧ t.arbiter.scrubTimer = s.arbiter.scrubTimer) ∧
  (pos = 1023 → t.engine.state = (if s.engine.rememberedFreeze = true then .frozen else .ready) ∧
    t.engine.rememberedFreeze = false ∧
    t.arbiter.scrubTimer = (if s.settings.scrubPace = 0 then none else some s.settings.scrubPace) ∧
    t.integrity.leakTimer = some (s.integrity.leakTimer.getD (s.settings.leakPeriod * 1000))) ∧
  t.journal.index = s.journal.index ∧ t.journal.orphans = s.journal.orphans ∧ t.journal.stamp = s.journal.stamp ∧
  t.journal.generation = s.journal.generation ∧ t.journal.compromised = s.journal.compromised ∧
  t.sessions = s.sessions ∧ t.sweeper = s.sweeper ∧ t.service = s.service ∧ t.faults = s.faults ∧ t.resetCtl = s.resetCtl ∧
  t.arbiter.scrubDue = s.arbiter.scrubDue ∧ (∀ m, m ≠ pos → t.stored m = s.stored m) ∧
  (∀ q, s.isOpen q = false → t.link q = s.link q)

theorem advanced_initAdvanced {s : State} (hs : s.engine.state = .initializing) : Advanced s s.initAdvanced s.engine.initPos := by
  unfold State.initAdvanced
  by_cases hEnd : s.engine.initPos < 1023
  · rw [if_pos hEnd]
    exact ⟨rfl, fun _ => ⟨hs, rfl, rfl, rfl, rfl⟩, fun h => absurd h (Nat.ne_of_lt hEnd), rfl, rfl, rfl, rfl, rfl, rfl, rfl, rfl, rfl, rfl,
      rfl, fun _ _ => rfl, fun _ _ => rfl⟩
  · rw [if_neg hEnd]
    exact ⟨rfl, fun h => absurd h hEnd, fun _ => ⟨rfl, rfl, rfl, rfl⟩, rfl, rfl, rfl, rfl, rfl, rfl, rfl, rfl, rfl, rfl,
      rfl, fun _ _ => rfl, fun _ _ => rfl⟩

/-- An entry to CLOSING in the same grant. -/
theorem Advanced.enterIfDue {s t : State} {pos : Nat} (h : Advanced s t pos) (hClosed : ∀ p, t.isOpen p = false) :
    Advanced s t.enterIfDue pos := by
  obtain ⟨h1, h2, h3, h4, h5, h6, h7, h8, h9, h10, h11, h12, h13, h14, h15, h16⟩ := h
  obtain ⟨hSessions, hArbiter, hStore, hIndex, hOrphans, hStamp, hGen, hComp, hState, hRemembered, hPos, hSweeper, hLeak, -, -, hService,
    hFaults, hReset, hFree, -⟩ := enterIfDue_frame t
  refine ⟨hPos.trans h1, fun hp => ?_, fun hp => ?_, hIndex.trans h4, hOrphans.trans h5, hStamp.trans h6, hGen.trans h7, hComp.trans h8,
    hSessions.trans h9, hSweeper.trans h10, hService.trans h11, hFaults.trans h12, hReset.trans h13, ?_, fun m hm => ?_, fun q hq => ?_⟩
  · rw [enterIfDue_of_starting (h2 hp).1]
    exact h2 hp
  · rw [hState, hRemembered, hArbiter, hLeak]
    exact h3 hp
  · rw [hArbiter]
    exact h14
  · have hSame : t.enterIfDue.stored m = t.stored m := by
      unfold State.stored
      rw [hStore, hFree]
    exact hSame.trans (h15 m hm)
  · have hSame : t.enterIfDue.link q = t.link q := congrArg (fun l => PerPort.get l q) (enterIfDue_of_closed hClosed).2
    exact hSame.trans (h16 q hq)

/-- The state with a free write at the initialiser's position, which joins the pool. -/
def State.initWritten (s : State) : State := { s with
  arbiter := { s.arbiter with pointer := .initialiser, lastWasScrub := false }
  journal := { s.journal with store := SlotMap.insert s.engine.initPos freeSlot s.journal.store
                              pool := s.journal.pool ++ [s.engine.initPos] }
  engine := { s.engine with armed := s.rearmedAt (s.journal.pool.length + 1) } }

theorem initWritten_starting {s : State} (h : Starting s) : Starting s.initWritten := ⟨h.state, h.closed, h.held, h.timer, h.idle⟩

theorem initWritten_stored (s : State) (m : Nat) :
    s.initWritten.stored m = if m = s.engine.initPos then freeSlot else s.stored m := stored_of_insert (s := s) (t := s.initWritten) rfl rfl m

theorem initWritten_eq {s : State} (hs : s.engine.state = .initializing) :
    (((s.beginGrant .initialiser).freeWrite s.engine.initPos).poolSlot s.engine.initPos) = s.initWritten := by
  have hDue : s.closingDue = false := Bool.eq_false_iff.2 fun h => by
    rw [(closingDue_iff.1 h).1] at hs
    cases hs
  have hLength : (s.journal.pool ++ [s.engine.initPos]).length = s.journal.pool.length + 1 := List.length_append
  rw [beginGrant_of_not_due _ _ hDue, State.poolSlot, rearmTest_eq, State.initWritten, ← hLength]
  rfl

theorem Advanced.of_initWritten {s t : State} (h : Advanced s.initWritten t s.engine.initPos) : Advanced s t s.engine.initPos := by
  obtain ⟨h1, h2, h3, h4, h5, h6, h7, h8, h9, h10, h11, h12, h13, h14, h15, h16⟩ := h
  refine ⟨h1, h2, h3, h4, h5, h6, h7, h8, h9, h10, h11, h12, h13, h14, fun m hm => ?_, h16⟩
  rw [h15 m hm, initWritten_stored, if_neg hm]

theorem initAdvanced_closed {s : State} (h : Starting s) (p : Port) : s.initAdvanced.isOpen p = false :=
  (isOpen_of_sessions (initAdvanced_parts s).1 p).trans (h.closed p)

theorem finish_initAdvanced {s : State} (h : Starting s) : s.initAdvanced.finish = s.initAdvanced := by
  refine finish_of_closed (initAdvanced_closed h) ?_ ?_
  · rw [(initAdvanced_parts s).2.1]
    exact h.held
  · rw [(initAdvanced_parts s).2.1]
    exact h.timer

theorem finish_enterIfDue_initAdvanced {s : State} (h : Starting s) : s.initAdvanced.enterIfDue.finish = s.initAdvanced.enterIfDue := by
  have hClosed := initAdvanced_closed h
  have hNotices := (enterIfDue_of_closed hClosed).1.trans (initAdvanced_parts s).2.1
  refine finish_of_closed (fun p => ?_) ?_ ?_
  · exact (isOpen_of_sessions (enterIfDue_frame _).1 p).trans (hClosed p)
  · rw [hNotices]
    exact h.held
  · rw [hNotices]
    exact h.timer

/-- No block enters CLOSING while a slot is still to be written, when the engine starts FROZEN, or with an empty queue. -/
theorem enterIfDue_initAdvanced {s : State} (hs : s.engine.state = .initializing)
    (h : s.engine.initPos < 1023 ∨ s.engine.rememberedFreeze = true ∨ s.integrity.retireQueue = []) :
    s.initAdvanced.enterIfDue = s.initAdvanced := by
  refine enterIfDue_of_not_due (Bool.eq_false_iff.2 fun hDue => ?_)
  obtain ⟨hReady, -, hQueue⟩ := closingDue_iff.1 hDue
  rw [(initAdvanced_parts s).2.2.2.2.2.1] at hQueue
  obtain ⟨-, hLow, -⟩ := advanced_initAdvanced hs
  by_cases hEnd : s.engine.initPos < 1023
  · rw [(hLow hEnd).1] at hReady
    cases hReady
  · rcases h with h | h | h
    · exact hEnd h
    · rw [State.initAdvanced, if_neg hEnd] at hReady
      dsimp only at hReady
      rw [if_pos h] at hReady
      cases hReady
    · exact hQueue h

theorem exec_initialiserWrite (s : State) :
    (s.nextGrant = some (.place .initialiser) → Starting s → exec .initialiserWrite s = .next s.initWritten.initAdvanced.enterIfDue.finish) ∧
    (s.nextGrant ≠ some (.place .initialiser) → exec .initialiserWrite s = .next s) := by
  have hExec : exec .initialiserWrite s = execInitialiserWrite s := rfl
  have hPosition : (s.beginGrant .initialiser).engine.initPos = s.engine.initPos := by simp
  rw [hExec, execInitialiserWrite]
  refine ⟨fun h hs => congrArg Host.Outcome.next ((if_pos h).trans ?_), fun h => congrArg Host.Outcome.next (if_neg h)⟩
  dsimp only
  rw [hPosition, initWritten_eq hs.state, advanceInit_eq_initAdvanced (initWritten_starting hs)]

theorem exec_initialiserAdvance (s : State) :
    (s.engine.state = .initializing → (s.block (s.engine.initPos / 64)).state = .retired → Starting s →
      exec .initialiserAdvance s = .next s.initAdvanced.finish) ∧
    (s.engine.state ≠ .initializing ∨ (s.block (s.engine.initPos / 64)).state ≠ .retired → exec .initialiserAdvance s = .next s) := by
  have hExec : exec .initialiserAdvance s = execInitialiserAdvance s := rfl
  rw [hExec, execInitialiserAdvance]
  refine ⟨fun hs hRetired hStarting => ?_, fun h => congrArg Host.Outcome.next (if_neg ?_)⟩
  · have hBlock : s.engine.initPos / 64 < 16 := Nat.lt_of_not_le fun hc => by
      rw [block_of_le s hc] at hRetired
      cases hRetired
    have hlt : s.engine.initPos < 1024 := by omega
    rw [if_pos ⟨hs, hlt, decide_eq_true hRetired⟩, advanceInit_eq_initAdvanced hStarting]
  · rintro ⟨hs, -, hRetired⟩
    exact h.elim (fun hc => hc hs) fun hc => hc (of_decide_eq_true hRetired)

/-- Settles O52, by the write and the advance, of which nothing is told while no session is open. -/
theorem initialiserFillsThePool : Obligations.InitialiserFillsThePool := by
  unfold Obligations.InitialiserFillsThePool
  intro s h
  have hLaw : RetirementLaw s := h.2.2.2.2.2.2.2.2.2.2.2.1
  have hWorks : s.nextGrant = some (.place .initialiser) → Starting s ∧ s.engine.initPos < 1024 := fun hGrant => by
    obtain ⟨-, ⟨hs, hlt, -⟩, -⟩ := (nextGrant_place_iff hLaw .initialiser).1 hGrant
    exact ⟨starting_of_lawful h hs, hlt⟩
  have hRaised : ∀ x : State, Starting x → x.initAdvanced.raiseBoth .freezeChanged (some 2#32) = x.initAdvanced := fun x hx =>
    raiseBoth_of_closed rfl (initAdvanced_closed hx) _
  refine ⟨fun hGrant => ?_, fun hs hRetired => ?_, ⟨fun hGrant hEnds hUnqueued => ?_, fun hGrant hEnds => ?_, fun b rest hGrant hPos hEnds hQueue => ?_,
    fun hGrant hEnds => ?_, fun hs hRetired hEnds => ?_, fun hs hRetired hEnds => ?_⟩, (exec_initialiserWrite s).2, (exec_initialiserAdvance s).2⟩
  · obtain ⟨hs, -⟩ := hWorks hGrant
    have hw := initWritten_starting hs
    have hFrame := enterIfDue_frame s.initWritten.initAdvanced
    refine ⟨s.initWritten.initAdvanced.enterIfDue, ?_,
      ((advanced_initAdvanced hw.state).enterIfDue (initAdvanced_closed hw)).of_initWritten, ?_, ?_, fun hUnqueued => ?_⟩
    · rw [(exec_initialiserWrite s).1 hGrant hs, finish_enterIfDue_initAdvanced hw]
    · rw [(initAdvanced_stored _ _).2, initWritten_stored, if_pos rfl]
    · rw [hFrame.2.1, (initAdvanced_parts _).2.2.2.2.2.2.1]
      rfl
    · rw [enterIfDue_initAdvanced hw.state hUnqueued, (initAdvanced_parts _).2.2.2.1]
      rfl
  · have hStarting := starting_of_lawful h hs
    refine ⟨s.initAdvanced, ?_, advanced_initAdvanced hs, (initAdvanced_stored s _).1, (initAdvanced_parts s).2.2.2.2.2.2.1, ?_⟩
    · rw [(exec_initialiserAdvance s).1 hs hRetired hStarting, finish_initAdvanced hStarting]
    · rw [(initAdvanced_parts s).2.2.2.1]
  · obtain ⟨hs, -⟩ := hWorks hGrant
    refine ((exec_initialiserWrite s).1 hGrant hs).trans ?_
    rw [enterIfDue_initAdvanced (s := s.initWritten) hs.state hUnqueued]
    rfl
  · exact (exec_initialiserWrite s).1 hGrant (hWorks hGrant).1
  · obtain ⟨hs, -⟩ := hWorks hGrant
    have hQueue' : s.initWritten.initAdvanced.integrity.retireQueue = b :: rest := (initAdvanced_parts _).2.2.2.2.2.1.trans hQueue
    have hDue : s.initWritten.initAdvanced.closingDue = true := by
      refine closingDue_iff.2 ⟨?_, (inProgress_of_blocks (initAdvanced_parts _).2.2.2.2.1).trans hs.idle, by rw [hQueue']; nofun⟩
      obtain ⟨-, -, hHigh, -⟩ := advanced_initAdvanced (s := s.initWritten) hs.state
      exact (hHigh hPos).1.trans (if_neg fun hr => hEnds ⟨hPos, hr⟩)
    obtain ⟨hlt, -⟩ := hLaw.2.2.2.1 b (by rw [hQueue]; exact List.mem_cons_self)
    refine ⟨_, entersClosing_of_due hDue hlt rest, ?_⟩
    rw [(exec_initialiserWrite s).1 hGrant hs, enterIfDue_of_due hDue hQueue', settle_eq]
  · obtain ⟨hs, -⟩ := hWorks hGrant
    refine ((exec_initialiserWrite s).1 hGrant hs).trans ?_
    rw [enterIfDue_initAdvanced (s := s.initWritten) hs.state (.inr (.inl hEnds.2))]
    exact congrArg (fun x : State => Host.Outcome.next x.finish) (hRaised _ (initWritten_starting hs)).symm
  · exact (exec_initialiserAdvance s).1 hs hRetired (starting_of_lawful h hs)
  · rw [hRaised s (starting_of_lawful h hs)]
    exact (exec_initialiserAdvance s).1 hs hRetired (starting_of_lawful h hs)

end Sys2Proof.Machine
end

section
/-! PROOFS. The relocator's move of an entry (R167, R169). -/

-- The proofs are checked one after the other: run at once, their threads would exceed the memory bound of the check.
set_option Elab.async false

namespace Sys2Proof.Machine

theorem SlotMap.pairwise_of_wf {α : Type} {m : SlotMap α} (h : SlotMap.wf m = true) : m.Pairwise fun x y => x.1 < y.1 := by
  induction m with
  | nil => exact .nil
  | cons x rest ih =>
    obtain ⟨hAll, hRest⟩ := (SlotMap.wf_cons_iff x.1 x.2 rest).1 h
    exact .cons hAll (ih hRest)

/-- The lowest live slot of a block: the slots of the block below it hold nothing. -/
theorem lowestLive_lowest {s : State} (hw : s.journal.index.wf = true) {b n : Nat} (h : s.lowestLive b = some n) :
    blockOf n = b ∧ s.assoc n ≠ none ∧ ∀ i, i < n → blockOf i = b → s.assoc i = none := by
  obtain ⟨x, hx, rfl⟩ := Option.map_eq_some_iff.1 h
  obtain ⟨hHome, before, after, hSplit, hBefore⟩ := List.find?_eq_some_iff_append.1 hx
  refine ⟨of_decide_eq_true hHome, (SlotMap.find_ne_none_iff hw).2 ⟨x, List.mem_of_find?_eq_some hx, rfl⟩, fun i hi hb => ?_⟩
  refine Classical.byContradiction fun hLive => ?_
  obtain ⟨y, hy, rfl⟩ := (SlotMap.find_ne_none_iff hw).1 hLive
  have hSorted := SlotMap.pairwise_of_wf hw
  rw [hSplit] at hy hSorted
  rcases List.mem_append.1 hy with hy | hy
  · have hNot := hBefore y hy
    rw [decide_eq_true hb] at hNot
    cases hNot
  · rcases List.mem_cons.1 hy with rfl | hy
    · exact Nat.lt_irrefl _ hi
    · exact Nat.lt_asymm hi ((List.pairwise_cons.1 (List.pairwise_append.1 hSorted).2.1).1 y hy)

theorem moved_parts {s : State} {n m : Nat} {rest : List Nat} {k : RegionKey} {e : EntryBody} (hw : s.journal.index.wf = true) (i : Nat) :
    (s.moved n m rest k e).assoc i = (if i = m then some { key := k, summary := e.summary } else if i = n then none else s.assoc i) ∧
    (s.moved n m rest k e).stored i = (if i = n then freeSlot else if i = m then entrySlot k e else s.stored i) := by
  obtain ⟨-, -, hJournal, -, -, -, -, -, hFree, -⟩ := moved_frame s n m rest k e
  refine ⟨?_, ?_⟩
  · rw [State.assoc, hJournal, SlotMap.find_insert, SlotMap.find_erase hw]
    rfl
  · rw [stored_eq, stored_eq, hJournal, hFree, SlotMap.find_insert, SlotMap.find_insert]
    by_cases hin : i = n
    · rw [if_pos hin, if_pos hin]
      rfl
    · rw [if_neg hin, if_neg hin]
      by_cases him : i = m
      · rw [if_pos him, if_pos him]
        rfl
      · rw [if_neg him, if_neg him]

/-- The move's fall of the pooled free count (R45). -/
theorem moved_lowWater (s : State) (n m : Nat) (rest : List Nat) (k : RegionKey) (e : EntryBody) :
    LowWater s (s.moved n m rest k e) rest.length := by
  obtain ⟨hLinks, hNotices, hEngine⟩ := moved_told s n m rest k e
  exact (lowWater_of_test (v := s) (s := s.setJournal { s.journal with pool := rest }) (.of_sessions rfl rfl rfl) rfl rfl rfl).congr
    hEngine hNotices hLinks

/-- What the tests leave alone of the slots. -/
theorem settle_slots (s : State) (i : Nat) : s.settle.assoc i = s.assoc i ∧ s.settle.stored i = s.stored i := by
  unfold State.assoc State.stored
  simp

/-- The relocator's grant: a block in progress, and the lowest of its live slots. -/
theorem relocator_grant {s : State} (h : Inv s) (hGrant : s.nextGrant = some (.place .relocator)) : ∃ b n,
    s.inProgress = some b ∧ s.lowestLive b = some n ∧ s.engine.state = .ready ∧
    s.beginGrant .relocator = s.setArbiter { s.arbiter with pointer := .relocator, lastWasScrub := false } := by
  obtain ⟨-, ⟨hReady, b, hMoving, hLive⟩, -⟩ := (nextGrant_place_iff h.blocks.retirement .relocator).1 hGrant
  have hb : s.inProgress = some b := h.blocks.retirement.inProgress_eq (by rw [hMoving]; rfl)
  obtain ⟨n, hn⟩ := Option.isSome_iff_exists.1 (lowestLive_isSome_iff.2 hLive)
  refine ⟨b, n, hb, hn, hReady, beginGrant_of_not_due _ _ (Bool.eq_false_iff.2 fun hDue => ?_)⟩
  rw [(closingDue_iff.1 hDue).2.1] at hb
  cases hb

theorem relocate_cases {s : State} {b n : Nat} (hn : s.lowestLive b = some n) (w : SlotWear) :
    ((s.readSlot n w).entryAt n = none → s.relocate b w = s.readSlot n w) ∧
    (∀ e, (s.readSlot n w).entryAt n = some e → ∃ a, (s.readSlot n w).assoc n = some a ∧
      s.relocate b w = (s.readSlot n w).moveEntry n a e) := by
  unfold State.relocate
  rw [hn]
  dsimp only
  refine ⟨fun he => ?_, fun e he => ?_⟩
  · rw [he]
    cases (s.readSlot n w).assoc n with
    | none => rfl
    | some a => rfl
  · obtain ⟨hLive, -⟩ := entryAt_eq_some_iff.1 he
    obtain ⟨a, ha⟩ := Option.ne_none_iff_exists'.1 hLive
    refine ⟨a, ha, ?_⟩
    rw [ha, he]

theorem exec_relocationMove (w : SlotWear) (s : State) :
    (∀ b, s.nextGrant = some (.place .relocator) → (s.beginGrant .relocator).inProgress = some b →
      exec (.relocationMove w) s = .next ((s.beginGrant .relocator).relocate b w).finish) ∧
    (s.nextGrant ≠ some (.place .relocator) → exec (.relocationMove w) s = .next s) := by
  have hExec : exec (.relocationMove w) s = execRelocationMove w s := rfl
  rw [hExec, execRelocationMove]
  refine ⟨fun b h hb => congrArg Host.Outcome.next ((if_pos h).trans ?_), fun h => congrArg Host.Outcome.next (if_neg h)⟩
  dsimp only
  rw [hb]

/-- Settles O51, by the slot that is read, the move, and the tests that follow it. -/
theorem relocationMovesAnEntry : Obligations.RelocationMovesAnEntry := by
  unfold Obligations.RelocationMovesAnEntry
  intro s w hLawful
  have hi := Inv.of_lawful hLawful
  refine ⟨fun hGrant => ?_, (exec_relocationMove w s).2⟩
  obtain ⟨b, n, hb, hn, hReady, hBegin⟩ := relocator_grant hi hGrant
  obtain ⟨hHome, hLive, hLowest⟩ := lowestLive_lowest hi.journal.indexWf hn
  refine ⟨b, n, hb, hn, hHome, hLive, hLowest, ?_⟩
  have hProgress : (s.beginGrant .relocator).inProgress = some b := by
    rw [hBegin]
    exact hb
  have hLowestRead : (s.beginGrant .relocator).lowestLive b = some n := by
    rw [hBegin]
    exact hn
  have hExec := (exec_relocationMove w s).1 b hGrant hProgress
  obtain ⟨hGone, hStands⟩ := relocate_cases hLowestRead w
  have hRead : Sound (s.beginGrant .relocator) ((s.beginGrant .relocator).readSlot n w) :=
    sound_readSlot (fun hv => hv.journal.liveRange n (by rw [hBegin]; exact hLive)) w
  have hBegun := (sound_beginGrant s .relocator).inv hi
  have hv := hRead.inv hBegun
  have hState : ((s.beginGrant .relocator).readSlot n w).engine.state = .ready := by simpa using hReady
  have hRetiring := hRead.retiring b (not_inService_of_inProgress (inProgress_of_some hProgress))
  generalize hV : (s.beginGrant .relocator).readSlot n w = v at *
  refine ⟨fun he => ?_, fun e m rest he hPool => ?_⟩
  · rw [hExec, hGone he]
  obtain ⟨a, ha, hMove⟩ := hStands e he
  have hKey : v.keyAt n = some a.key := by rw [State.keyAt, ha]; rfl
  have hLives : v.Lives n a.key e := ⟨hKey, he⟩
  have hBlock : (v.block (blockOf n)).state.inProgress = true :=
    inProgress_of_states (by rw [hHome]; exact hRetiring) (hv.blocks.liveHome n (assoc_ne_none ha))
  have hvb : v.inProgress = some b := hv.blocks.retirement.inProgress_eq (by rw [← hHome]; exact hBlock)
  have hne : m ≠ n := fun hmn => by
    have hFree := hv.journal.poolFree m (hPool ▸ List.mem_cons_self ..)
    rw [hmn, ha] at hFree
    cases hFree
  obtain ⟨fSessions, fArbiter, fJournal, fSweeper, fIntegrity, fService, fFaults, -, -, -⟩ := moved_frame v n m rest a.key e
  obtain ⟨hSessions, hArbiter, -, -, hOrphans, hStamp, hGen, hComp, hEngine, -, -, hSweeper, -, -, -, hService, hFaults, -, -, -⟩ :=
    settle_frame (v.moved n m rest a.key e)
  have hLow := moved_lowWater v n m rest a.key e
  have hParts := moved_parts (n := n) (m := m) (rest := rest) (k := a.key) (e := e) hv.journal.indexWf
  have hMovedInv : Inv (v.moved n m rest a.key e) :=
    (keptIf_moved (I := True) hPool (fun _ _ => hLives) fun _ _ => hBlock).inv trivial hv
  have hMovedReady : (v.moved n m rest a.key e).engine.state = .ready := by
    rw [(moved_told v n m rest a.key e).2.2]
    simpa using hState
  have hMovedProgress : (v.moved n m rest a.key e).inProgress = some b :=
    (inProgress_of_blocks (by rw [fIntegrity])).trans hvb
  have hReserve : (v.moved n m rest a.key e).integrity.reserve = v.integrity.reserve - 1 := by rw [fIntegrity]
  have hTold := settle_told (s := v.moved n m rest a.key e) (.refl _)
  rw [fIntegrity] at hTold
  refine ⟨(v.moved n m rest a.key e).settle, by rw [hExec, hMove, moveEntry_eq hPool], ?_, ?_, ?_, fun k hk => ?_, ?_, fun i hin him => ⟨?_, ?_⟩,
    hOrphans.trans (by rw [fJournal]), hStamp.trans (by rw [fJournal]), hGen.trans (by rw [fJournal]), hComp.trans (by rw [fJournal]),
    hSessions.trans fSessions, hFaults.trans fFaults, hService.trans fService, hSweeper.trans fSweeper, fun hEmpty => ?_,
    hArbiter.trans fArbiter, fun hLast => ⟨?_, fun hEmpty => ?_⟩, fun hMore => ?_, fun hMore => ?_⟩
  · rw [(settle_slots _ n).1, (hParts n).1, if_neg (Ne.symm hne), if_pos rfl]
  · rw [State.keyAt, (settle_slots _ m).1, (hParts m).1, if_pos rfl, hKey]
    rfl
  · have hStoredAt := (moved_leaves (rest := rest) (k := a.key) (e := e) hv.journal.indexWf hne).1
    rw [entryAt_congr (settle_slots _ m).1 (by rw [(settle_slots _ m).2])]
    exact hStoredAt
  · obtain rfl := Option.some.inj (hKey.symm.trans hk)
    rw [(settle_slots _ m).2, (hParts m).2, if_neg hne, if_pos rfl]
    rfl
  · rw [(settle_slots _ n).2, (hParts n).2, if_pos rfl]
  · rw [(settle_slots _ i).2, (hParts i).2, if_neg hin, if_neg him]
  · rw [(settle_slots _ i).1, (hParts i).1, if_neg him, if_neg hin]
  · rw [(hTold hEmpty).2.2.1, fJournal]
  · exact settle_retires hMovedInv.blocks.retirement hMovedReady hMovedProgress (by rw [hReserve, hLast])
  · obtain ⟨-, hRetired, -, -, hSame⟩ := hTold hEmpty
    obtain ⟨-, hNotices, hLinks⟩ := hRetired b hMovedReady hMovedProgress (by rw [hLast])
    exact ⟨v.moved n m rest a.key e, hLow, fSessions, hSame, hNotices, hLinks⟩
  · rw [settle_progresses hMovedReady hMovedProgress (by rw [hReserve]; omega)]
    exact hLow.congr rfl rfl rfl
  · rw [settle_progresses hMovedReady hMovedProgress (by rw [hReserve]; omega)]
    exact ⟨hReserve, (congrArg Journal.pool fJournal).trans rfl⟩

end Sys2Proof.Machine
end

section
/-! PROOFS. Conversion on touch (R75 to R77, R80, R83). -/

-- The proofs are checked one after the other: run at once, their threads would exceed the memory bound of the check.
set_option Elab.async false

namespace Sys2Proof.Machine

/-! The entry that conversion leaves (R75 to R77) -/

/-- Whether the adopter of an entry is there and dead (R8). -/
def State.adopterDead (s : State) (a : Option Adopter) : Bool :=
  match a with
  | some x => !s.adopterLive x
  | none => false

theorem converted_of_standing {s : State} {e : EntryBody}
    (h : (e.state = .opened ∧ s.holdDead .a e.holdA = false ∧ s.holdDead .b e.holdB = false) ∨ e.state = .orphan ∨
      (e.state = .adopted ∧ s.adopterDead e.adopter = false)) : s.converted e = e := by
  rcases converted_cases s e with he | ⟨hs, hDead, -⟩ | ⟨x, hs, hx, hLive, -⟩
  · exact he
  · rcases h with ⟨-, hA, hB⟩ | h | ⟨h, -⟩
    · rw [hA, hB] at hDead
      cases hDead
    · cases hs.symm.trans h
    · cases hs.symm.trans h
  · rcases h with ⟨h, -, -⟩ | h | ⟨-, h⟩
    · cases hs.symm.trans h
    · cases hs.symm.trans h
    · rw [hx, State.adopterDead, hLive] at h
      cases h

theorem converted_of_deadHold {s : State} {e : EntryBody} (hs : e.state = .opened)
    (h : s.holdDead .a e.holdA = true ∨ s.holdDead .b e.holdB = true) : s.converted e = { e with
      holdA := s.convertHold .a e.holdA, holdB := s.convertHold .b e.holdB, lostHolder := true
      state := if (s.convertHold .a e.holdA).isNone && (s.convertHold .b e.holdB).isNone then .orphan else .opened } := by
  unfold State.converted
  rw [hs]
  exact if_pos (Bool.or_eq_true_iff.2 h)

theorem converted_of_deadAdopter {s : State} {e : EntryBody} (hs : e.state = .adopted) (h : s.adopterDead e.adopter = true) :
    s.converted e = { e with state := .orphan, adopter := none } := by
  cases hx : e.adopter with
  | none =>
    rw [hx] at h
    cases h
  | some x =>
    rw [hx] at h
    have hDead : s.adopterLive x = false := Bool.not_eq_true' _ ▸ h
    unfold State.converted
    rw [hs, hx]
    exact if_neg (by rw [hDead]; nofun)

/-- A dead hold is not empty: its conversion changes the entry. -/
theorem converted_ne_of_deadHold {s : State} {e : EntryBody} (hs : e.state = .opened)
    (h : s.holdDead .a e.holdA = true ∨ s.holdDead .b e.holdB = true) : s.converted e ≠ e := by
  have hGone : ∀ p x, s.holdDead p x = true → s.convertHold p x ≠ x := fun p x hx hSame => by
    rw [State.convertHold, if_pos hx] at hSame
    rw [← hSame] at hx
    cases hx
  rw [converted_of_deadHold hs h]
  intro hSame
  rcases h with h | h
  · exact hGone .a _ h (congrArg EntryBody.holdA hSame)
  · exact hGone .b _ h (congrArg EntryBody.holdB hSame)

/-! What the write leaves -/

/-- Slot `n` holds the entry `x` in its body, and stands otherwise; so do the other slots. -/
def Rebodied (s t : State) (n : Nat) (k : RegionKey) (x : EntryBody) : Prop :=
  t.stored n = { s.stored n with body := .entry x, ecc := .clean } ∧ t.entryAt n = some x ∧ t.keyAt n = some k ∧
  (∀ m, m ≠ n → t.stored m = s.stored m ∧ t.assoc m = s.assoc m)

theorem rebodied_convertOnTouch {s : State} {n : Nat} {k : RegionKey} {e : EntryBody} (h : s.Lives n k e) (hNew : s.converted e ≠ e) :
    Rebodied s (s.convertOnTouch n) n k (s.converted e) := by
  obtain ⟨hk, he⟩ := convertOnTouch_lives h
  refine ⟨?_, he, hk, fun m hm => ⟨(convertOnTouch_other s hm).2, (convertOnTouch_other s hm).1⟩⟩
  rw [convertOnTouch_of_lives h, if_neg hNew]
  split
  · have hSame : ∀ u : State, (u.joinOrphans k e.stamp).stored n = u.stored n := fun u => by
      unfold State.stored
      simp
    rw [hSame, (bodyWrite_stored ..).1]
  · rw [(bodyWrite_stored ..).1]

/-! The orphan list (R80, R83) -/

theorem insertOrphan_eq (o : Orphan) (l : List Orphan) : insertOrphan o l =
    l.takeWhile (fun x => x.stamp.toNat ≤ o.stamp.toNat) ++ o :: l.dropWhile (fun x => x.stamp.toNat ≤ o.stamp.toNat) := by
  induction l with
  | nil => rfl
  | cons x rest ih =>
    rw [insertOrphan]
    by_cases h : o.stamp.toNat < x.stamp.toNat
    · have hNot : decide (x.stamp.toNat ≤ o.stamp.toNat) = false := decide_eq_false (Nat.not_le.2 h)
      rw [if_pos h, List.takeWhile_cons_of_neg (by rw [hNot]; nofun), List.dropWhile_cons_of_neg (by rw [hNot]; nofun)]
      rfl
    · have hLe : decide (x.stamp.toNat ≤ o.stamp.toNat) = true := decide_eq_true (Nat.not_lt.1 h)
      rw [if_neg h, List.takeWhile_cons_of_pos (by exact hLe), List.dropWhile_cons_of_pos (by exact hLe), ih]
      rfl

/-- A once-only notice for both ports, while raises are held: it waits for the open ones, A before B (R135, log 30). -/
theorem raiseBoth_once_held {s : State} {l : List Raise} (h : s.notices.held = some l) {k : NoticeKind} (hk : k.repeating = false)
    (w : Option Word) : (s.raiseBoth k w).notices.held =
      some (l ++ ([.a, .b].filter fun q => s.isOpen q).map fun q => ⟨q, k, w⟩) := by
  have hRaise : ∀ (x : State) (l : List Raise) (q : Port), x.notices.held = some l →
      (x.raise q k w).notices.held = some (l ++ if x.isOpen q = true then [⟨q, k, w⟩] else []) := fun x l q hx => by
    rw [raise_of_held hx]
    by_cases ho : x.isOpen q = true
    · rw [if_pos (.inr ho), if_pos ho]
    · rw [if_neg fun hc => hc.elim (by rw [hk]; nofun) ho, if_neg ho, List.append_nil]
      exact hx
  have hOpen : (s.raise .a k w).isOpen .b = s.isOpen .b := isOpen_of_sessions (raise_frame ..).1 .b
  have hFilter : ∀ f : Port → Bool, (([.a, .b].filter f).map fun q => (⟨q, k, w⟩ : Raise)) =
      (if f .a = true then [⟨.a, k, w⟩] else []) ++ if f .b = true then [⟨.b, k, w⟩] else [] := fun f => by
    rw [List.filter_cons, List.filter_cons]
    cases f .a <;> cases f .b <;> rfl
  rw [State.raiseBoth, hRaise _ _ .b (hRaise s l .a h), hOpen, hFilter, List.append_assoc]

/-- A once-only notice raised with no raise held is sent to its port if the port is reached (R142). -/
theorem raise_once_sent {s : State} (h : s.notices.held = none) {k : NoticeKind} (hk : k.repeating = false) (p : Port) (w : Option Word) :
    ((s.raise p k w).link p).outbound = (s.link p).outbound ++
      (if s.isOpen p = true ∧ (s.link p).state = .up ∧ (s.link p).outbound.length < 16 then [.notice k (s.session p).epoch (s.notices.serials.get p) w] else []) ∧
    (s.raise p k w).link p.other = (s.link p.other) ∧
    (s.raise p k w).notices.serials.get p.other = s.notices.serials.get p.other := by
  have hClear : ((s.notices.flags.get p).get k).isSome = false := by rw [PendingFlags.get_of_once _ hk]; rfl
  obtain ⟨-, hReached, hNot⟩ := takeRaise_parts hClear w
  obtain ⟨-, -, hLink, hSerial, -⟩ := takeRaise_other s p k w
  rw [raise_of_none h]
  refine ⟨?_, hLink, hSerial⟩
  by_cases hr : s.reaches p
  · rw [if_pos (show _ ∧ _ from hr), State.link, (hReached hr).1, PerPort.get_set_same]
  · rw [if_neg (show ¬(_ ∧ _) from hr), State.link, (hNot hr).1, List.append_nil]
    rfl

theorem raiseBoth_once_sent {s : State} (h : s.notices.held = none) {k : NoticeKind} (hk : k.repeating = false) (w : Option Word) (q : Port) :
    ((s.raiseBoth k w).link q).outbound = (s.link q).outbound ++
      (if s.isOpen q = true ∧ (s.link q).state = .up ∧ (s.link q).outbound.length < 16 then [.notice k (s.session q).epoch (s.notices.serials.get q) w] else []) := by
  have hHeld : (s.raise .a k w).notices.held = none := by
    obtain ⟨-, -, -, -, hFrame⟩ := takeRaise_other s .a k w
    rw [raise_of_none h, hFrame]
    exact h
  obtain ⟨hSentA, hLinkB, hSerialB⟩ := raise_once_sent h hk .a w
  obtain ⟨hSentB, hLinkA, -⟩ := raise_once_sent hHeld hk .b w
  have hSessions : (s.raise .a k w).sessions = s.sessions := (raise_frame ..).1
  cases q with
  | a => exact (congrArg Link.outbound hLinkA).trans hSentA
  | b =>
    have hSession : (s.raise .a k w).session .b = s.session .b := congrArg (fun x => PerPort.get x .b) hSessions
    refine hSentB.trans ?_
    rw [show (s.raise .a k w).link .b = s.link .b from hLinkB, hSession,
      show (s.raise .a k w).notices.serials.get .b = s.notices.serials.get .b from hSerialB]
    rw [isOpen_of_sessions hSessions]

/-- A converted entry that is ORPHAN joins the list, and a list that was empty is announced. -/
def Joined (s t : State) (k : RegionKey) (stamp : Stamp) : Prop :=
  t.journal.orphans = insertOrphan ⟨k, stamp⟩ (s.journal.orphans.filter fun x => x.key ≠ k) ∧
  (s.journal.orphans ≠ [] → t.notices = s.notices ∧ t.links = s.links) ∧
  (s.journal.orphans = [] → t.notices = (s.raiseBoth .orphansPresent (some 1#32)).notices ∧
    t.links = (s.raiseBoth .orphansPresent (some 1#32)).links) ∧
  (∀ l, s.journal.orphans = [] → s.notices.held = some l →
    t.notices.held = some (l ++ ([.a, .b].filter fun q => s.isOpen q).map fun q => ⟨q, .orphansPresent, some 1#32⟩)) ∧
  (s.journal.orphans = [] → s.notices.held = none → ∀ q, (t.link q).outbound = (s.link q).outbound ++
    if s.isOpen q = true ∧ (s.link q).state = .up ∧ (s.link q).outbound.length < 16
    then [.notice .orphansPresent (s.session q).epoch (s.notices.serials.get q) (some 1#32)] else [])

theorem joined_joinOrphans {s u : State} (ha : Alike s u) (hOrphans : u.journal.orphans = s.journal.orphans) (k : RegionKey) (stamp : Stamp) :
    Joined s (u.joinOrphans k stamp) k stamp := by
  have hList : (u.withOrphan k stamp).journal.orphans = insertOrphan ⟨k, stamp⟩ (s.journal.orphans.filter fun x => x.key ≠ k) :=
    congrArg (fun l : List Orphan => insertOrphan ⟨k, stamp⟩ (l.filter fun x => x.key ≠ k)) hOrphans
  have hAlike : Alike s (u.withOrphan k stamp) := ⟨ha.links, ha.isOpen, ha.epoch, ha.notices⟩
  rw [joinOrphans_eq, hOrphans]
  by_cases hEmpty : s.journal.orphans = []
  · have hCount : (u.withOrphan k stamp).orphanCount = 1 := by
      rw [State.orphanCount, hList, hEmpty]
      rfl
    rw [if_pos (List.isEmpty_iff.2 hEmpty), hCount, raiseBoth_alike hAlike]
    exact ⟨hList, fun h => absurd hEmpty h, fun _ => ⟨rfl, rfl⟩, fun l _ hl => raiseBoth_once_held hl rfl _,
      fun _ hl q => raiseBoth_once_sent hl rfl _ q⟩
  · rw [if_neg fun h => hEmpty (List.isEmpty_iff.1 h)]
    exact ⟨hList, fun _ => ⟨ha.notices, ha.links⟩, fun h => absurd h hEmpty, fun _ h => absurd h hEmpty, fun h => absurd h hEmpty⟩

/-- Settles O49, by what conversion makes of an entry, the write, and the list that it joins. -/
theorem touchedEntriesConvert : Obligations.TouchedEntriesConvert := by
  unfold Obligations.TouchedEntriesConvert
  refine ⟨fun s n w => rfl, insertOrphan_eq, ?_⟩
  intro s n k e hk he live dead deadAdopter t wrote joined kept keptB
  have hHold : ∀ q, dead q = s.holdDead q (e.hold q) := fun q => by
    simp only [dead, State.holdDead]
    cases e.hold q <;> rfl
  have hAdopter : deadAdopter = s.adopterDead e.adopter := by
    simp only [deadAdopter, State.adopterDead]
    cases e.adopter <;> rfl
  have hKeptA : kept = s.convertHold .a e.holdA := by
    simp only [kept, hHold]
    rfl
  have hKeptB : keptB = s.convertHold .b e.holdB := by
    simp only [keptB, hHold]
    rfl
  rw [hAdopter, hKeptA, hKeptB, hHold, hHold]
  have hl : s.Lives n k e := ⟨hk, he⟩
  obtain ⟨hSessions, hArbiter, hPool, hStamp, hGen, hComp, hEngine, hSweeper, hIntegrity, -, hService, hFaults, -⟩ := convertOnTouch_frame s n
  have hTouch := convertOnTouch_of_lives hl
  have hAlike : ∀ x, Alike s (s.bodyWrite n x) := fun x => by
    obtain ⟨hLinks, hSessions, -, -, -, -, -, -, -, -, -, hNotices, -⟩ := bodyWrite_frame s n x
    exact .of_sessions hLinks hSessions hNotices
  have hJoins : ∀ x, s.converted e = x → x ≠ e → x.state = .orphan → Joined s (s.convertOnTouch n) k e.stamp := fun x hx hNew hOrphan => by
    rw [hTouch, hx, if_neg hNew, if_pos hOrphan]
    exact joined_joinOrphans (hAlike x) (by simp) k e.stamp
  have hWrites : ∀ x, s.converted e = x → x ≠ e → Rebodied s (s.convertOnTouch n) n k x := fun x hx hNew => by
    subst hx
    exact rebodied_convertOnTouch hl hNew
  refine ⟨fun h => ?_, fun hs hDead hKept => ?_, fun hs hDead hA hB => ?_, fun hs hDead => ?_, hPool, hStamp, hGen, hComp, hSessions, hEngine,
    hArbiter, hSweeper, hIntegrity, hService, hFaults⟩
  · exact hTouch.trans (if_pos (converted_of_standing h))
  · have hNot : ((s.convertHold .a e.holdA).isNone && (s.convertHold .b e.holdB).isNone) = false := by
      rw [Bool.and_eq_false_iff, Option.isNone_eq_false_iff, Option.isNone_eq_false_iff]
      exact hKept
    have hNew := converted_ne_of_deadHold hs hDead
    have hConverted : s.converted e = { e with
        holdA := s.convertHold .a e.holdA, holdB := s.convertHold .b e.holdB, lostHolder := true } := by
      rw [converted_of_deadHold hs hDead, hNot, ← hs]
      rfl
    have hState : (s.converted e).state ≠ .orphan := by
      rw [hConverted]
      show e.state ≠ .orphan
      rw [hs]
      nofun
    refine ⟨hWrites _ hConverted (hConverted ▸ hNew), ?_⟩
    have hBody : t = s.bodyWrite n (s.converted e) := hTouch.trans ((if_neg hNew).trans (if_neg hState))
    rw [hBody]
    exact ⟨by simp, (hAlike _).notices, (hAlike _).links⟩
  · have hNew := converted_ne_of_deadHold hs hDead
    have hConverted : s.converted e = { e with state := .orphan, holdA := none, holdB := none, lostHolder := true } := by
      rw [converted_of_deadHold hs hDead, show s.convertHold .a e.holdA = none from hA, show s.convertHold .b e.holdB = none from hB]
      rfl
    exact ⟨hWrites _ hConverted (hConverted ▸ hNew), hJoins _ hConverted (hConverted ▸ hNew) rfl⟩
  · have hConverted : s.converted e = { e with state := .orphan, adopter := none } := converted_of_deadAdopter hs hDead
    have hNew : ({ e with state := .orphan, adopter := none } : EntryBody) ≠ e := fun hSame => by
      have hState := congrArg EntryBody.state hSame
      rw [hs] at hState
      cases hState
    exact ⟨hWrites _ hConverted hNew, hJoins _ hConverted hNew rfl⟩

end Sys2Proof.Machine
end

section
/-! PROOFS. The vote, the judgement of a slot read, and the reads that lose nothing (R2, R153, R156, R157, R162). -/

-- The proofs are checked one after the other: run at once, their threads would exceed the memory bound of the check.
set_option Elab.async false

namespace Sys2Proof.Machine

/-! The vote (R2) -/

/-- Two copies that agree decide. -/
theorem majority_of_two (v b : KeyValue) : (⟨v, v, b⟩ : KeyCopies).majority = some v ∧ (⟨v, b, v⟩ : KeyCopies).majority = some v ∧
    (⟨b, v, v⟩ : KeyCopies).majority = some v := by
  unfold KeyCopies.majority
  refine ⟨if_pos rfl, ?_, ?_⟩
  · by_cases h : v = b
    · exact if_pos h
    · exact (if_neg h).trans (if_pos rfl)
  · by_cases h : b = v
    · rw [if_pos h, h]
    · exact (if_neg h).trans ((if_neg h).trans (if_pos rfl))

theorem vote_of_majority {k : KeyCopies} {v : KeyValue} (h : k.majority = some v) (x : KeyValue) :
    k.vote x = if v = x then (if k.c0 = k.c1 ∧ k.c1 = k.c2 then .agree else .oneOff) else .mismatch := by
  unfold KeyCopies.vote
  rw [h]

theorem vote_of_two {v b x : KeyValue} (h : v ≠ x) : (⟨v, v, b⟩ : KeyCopies).vote x = .mismatch ∧ (⟨v, b, v⟩ : KeyCopies).vote x = .mismatch ∧
    (⟨b, v, v⟩ : KeyCopies).vote x = .mismatch := by
  obtain ⟨h1, h2, h3⟩ := majority_of_two v b
  rw [vote_of_majority h1, vote_of_majority h2, vote_of_majority h3]
  exact ⟨if_neg h, if_neg h, if_neg h⟩

theorem vote_oneOff {v a : KeyValue} (h : a ≠ v) : (⟨a, v, v⟩ : KeyCopies).vote v = .oneOff ∧ (⟨v, a, v⟩ : KeyCopies).vote v = .oneOff ∧
    (⟨v, v, a⟩ : KeyCopies).vote v = .oneOff := by
  obtain ⟨h1, h2, h3⟩ := majority_of_two v a
  rw [vote_of_majority h1, vote_of_majority h2, vote_of_majority h3]
  exact ⟨(if_pos rfl).trans (if_neg fun hc => h hc.1), (if_pos rfl).trans (if_neg fun hc => h hc.2),
    (if_pos rfl).trans (if_neg fun hc => h hc.2.symm)⟩

theorem vote_split {a b c : KeyValue} (h1 : a ≠ b) (h2 : a ≠ c) (h3 : b ≠ c) (x : KeyValue) : (⟨a, b, c⟩ : KeyCopies).vote x = .split := by
  have hNone : (⟨a, b, c⟩ : KeyCopies).majority = none := (if_neg h1).trans ((if_neg h2).trans (if_neg h3))
  unfold KeyCopies.vote
  rw [hNone]

/-! What the tests for a retirement do to the blocks, whatever the law (R165, R166, R169) -/

/-- From `s` to `t` retirements have gone on: no bucket changes, a block that waits or is being retired does so still, one that does
neither is left in service, and no slot joins the pool. -/
structure Retires (s t : State) : Prop where
  bucket : ∀ m, (t.block m).bucket = (s.block m).bucket
  waits : ∀ b, b < 16 → b ∈ s.integrity.retireQueue ∨ (s.block b).state ≠ .inService →
    b ∈ t.integrity.retireQueue ∨ (t.block b).state ≠ .inService
  stays : ∀ b, b ∉ s.integrity.retireQueue → (s.block b).state = .inService →
    b ∉ t.integrity.retireQueue ∧ (t.block b).state = .inService
  pool : ∀ m ∈ t.journal.pool, m ∈ s.journal.pool

namespace Retires

theorem of_integrity {s t : State} (h : t.integrity.blocks = s.integrity.blocks) (hQueue : t.integrity.retireQueue = s.integrity.retireQueue)
    (hPool : ∀ m ∈ t.journal.pool, m ∈ s.journal.pool) : Retires s t := by
  have hBlock : ∀ m, t.block m = s.block m := fun m => congrArg (fun x : Vector Block 16 => x[m]?.getD {}) h
  refine ⟨fun m => by rw [hBlock], fun b _ hw => by rwa [hQueue, hBlock], fun b hb hs => ?_, hPool⟩
  rw [hQueue, hBlock]
  exact ⟨hb, hs⟩

theorem trans {s t u : State} (h : Retires s t) (h' : Retires t u) : Retires s u :=
  ⟨fun m => (h'.bucket m).trans (h.bucket m), fun b hb hw => h'.waits b hb (h.waits b hb hw),
    fun b hb hs => h'.stays b (h.stays b hb hs).1 (h.stays b hb hs).2, fun m hm => h.pool m (h'.pool m hm)⟩

theorem testProgress (s : State) : Retires s s.testProgress := by
  obtain ⟨-, -, hJournal, -, -, hQueue, -⟩ := testProgress_frame s
  have hPool : ∀ m ∈ s.testProgress.journal.pool, m ∈ s.journal.pool := fun m hm => by rwa [hJournal] at hm
  have hSet : ∀ c st, st ≠ .inService → s.inProgress = some c →
      (∀ m, s.testProgress.block m = if m = c ∧ c < 16 then { s.block c with state := st } else s.block m) → Retires s s.testProgress :=
      fun c st hst hc hBlock => by
    refine ⟨fun m => ?_, fun b _ hw => ?_, fun b hb hs => ?_, hPool⟩
    · rw [hBlock]
      split
      · next h => rw [h.1]
      · rfl
    · rw [hQueue, hBlock]
      refine hw.imp_right fun hs => ?_
      split
      · exact hst
      · exact hs
    · have hbc : b ≠ c := fun h => not_inService_of_inProgress (inProgress_of_some hc) (h ▸ hs)
      rw [hQueue, hBlock, if_neg fun h => hbc h.1]
      exact ⟨hb, hs⟩
  rcases testProgress_cases s with ⟨ht, -⟩ | ⟨c, -, hc, -, ht⟩ | ⟨c, -, hc, -, ht⟩
  · rw [ht]
    exact .of_integrity rfl rfl fun _ hm => hm
  · exact hSet c .retired nofun hc fun m => by rw [ht, retire_block]
  · exact hSet c _ (not_inService_of_inProgress (movingOrClosing_inProgress _)) hc fun m => by rw [ht, setBlockState_block]

theorem enterClosing {s : State} {b : Nat} {rest : List Nat} (hQueue : s.integrity.retireQueue = b :: rest) :
    Retires s (s.enterClosing b rest) := by
  have hRest : (s.enterClosing b rest).integrity.retireQueue = rest := enterClosing_queue s b rest
  refine ⟨fun m => ?_, fun c hc hw => ?_, fun c hc hs => ?_, fun m hm => ?_⟩
  · rw [enterClosing_block]
    split
    · next h => rw [h.1]
    · rfl
  · rw [hRest, enterClosing_block]
    by_cases hcb : c = b
    · rw [if_pos ⟨hcb, hcb ▸ hc⟩]
      exact .inr nofun
    · rw [if_neg fun h => hcb h.1]
      rw [hQueue, List.mem_cons] at hw
      exact hw.imp_left fun h => h.resolve_left hcb
  · rw [hQueue, List.mem_cons, not_or] at hc
    rw [hRest, enterClosing_block, if_neg fun h => hc.1 h.1]
    exact ⟨hc.2, hs⟩
  · rw [enterClosing_pool] at hm
    exact (List.mem_filter.1 hm).1

theorem settle (s : State) : Retires s s.settle :=
  (settleWithin_induction (P := Retires s) (Q := fun _ => True) (fun _ h => ⟨h.trans (.testProgress _), trivial⟩)
    (fun _ _ _ h _ _ hQueue => h.trans (.enterClosing hQueue)) _ (.of_integrity rfl rfl fun _ hm => hm)).1

theorem enterIfDue (s : State) : Retires s s.enterIfDue := by
  unfold State.enterIfDue
  split
  · exact .settle s
  · exact .of_integrity rfl rfl fun _ hm => hm

end Retires

theorem queueBlock_cases (s : State) (b : Nat) :
    ((s.block b).state = .inService → b ∉ s.integrity.retireQueue → s.retirementCount < 4 → s.queueBlock b = s.enqueued b) ∧
    ((s.block b).state = .inService → b ∉ s.integrity.retireQueue → 4 ≤ s.retirementCount →
      s.queueBlock b = s.capture { kind := .retireLimit, block := some b }) ∧
    ((s.block b).state ≠ .inService ∨ b ∈ s.integrity.retireQueue → s.queueBlock b = s) := by
  unfold State.queueBlock
  refine ⟨fun hs hb hc => ?_, fun hs hb hc => ?_, fun h => if_neg fun hc => h.elim (fun hs => hs hc.1) hc.2⟩
  · exact (if_pos ⟨hs, hb⟩).trans (if_pos hc)
  · exact (if_pos ⟨hs, hb⟩).trans (if_neg (Nat.not_lt.2 hc))

/-! Faults (R190) -/

/-- A fault is recorded in its own class, which depends on that class and the uptime alone. -/
theorem capture_get {s t : State} (f : FaultRecord) :
    (∀ c, c ≠ f.kind.faultClass → (s.capture f).faults.get c = s.faults.get c) ∧
    (t.faults.get f.kind.faultClass = s.faults.get f.kind.faultClass → t.resetCtl = s.resetCtl →
      (t.capture f).faults.get f.kind.faultClass = (s.capture f).faults.get f.kind.faultClass) := by
  obtain ⟨hFills, hJoins, hOthers, -⟩ := faultsFillOrJoin s f
  obtain ⟨hFills', hJoins', -⟩ := faultsFillOrJoin t f
  refine ⟨hOthers, fun hClass hReset => ?_⟩
  cases hFirst : (s.faults.get f.kind.faultClass).first with
  | none => rw [hFills hFirst, hFills' (by rw [hClass, hFirst]), hClass, hReset]
  | some r => rw [hJoins (by rw [hFirst]; rfl), hJoins' (by rw [hClass, hFirst]; rfl), hClass]

/-! The judgement (R4, R153, R156, R157) -/

/-- The faults of what a read corrects (R157). -/
def State.corrections (s : State) (n : Nat) (o : ReadOutcome) : State :=
  let key : FaultRecord := { kind := .keyCorrected, slot := some n, block := some (blockOf n), key := s.keyAt n }
  let body : FaultRecord := { kind := .bodyCorrected, slot := some n, block := some (blockOf n), key := s.keyAt n }
  let u := if o.vote = .oneOff then s.capture key else s
  if o.ecc = .corrected ∧ o.vote.lost = false then u.capture body else u

/-- The state of a read once its bucket has risen and its corrections are recorded, before the retire queue is looked at. -/
def State.noted (s : State) (n : Nat) (o : ReadOutcome) : State :=
  (s.withBucket (blockOf n) (readBucket (s.block (blockOf n)).bucket s.settings.bucketThreshold o)).corrections n o

theorem judgeRead_eq (s : State) (n : Nat) (o : ReadOutcome) : s.judgeRead n o =
    if readQueues (s.block (blockOf n)).bucket s.settings.bucketThreshold o = true
      then ((s.noted n o).queueBlock (blockOf n)).enterIfDue else s.noted n o := rfl

theorem corrections_eq (s : State) (n : Nat) (o : ReadOutcome) : s.corrections n o = { s with faults := (s.corrections n o).faults } := by
  have hCapture : ∀ (x : State) (f : FaultRecord), x.capture f = { x with faults := (x.capture f).faults } := fun x f =>
    (faultsFillOrJoin x f).2.2.2.2
  unfold State.corrections
  dsimp only
  split
  · rw [hCapture]
    split
    · rw [hCapture s]
    · rfl
  · split
    · exact hCapture s _
    · rfl

theorem corrections_faults_congr {s t : State} (hFaults : t.faults = s.faults) (hReset : t.resetCtl = s.resetCtl)
    (hService : t.service = s.service) {n : Nat} (hKey : t.keyAt n = s.keyAt n) (o : ReadOutcome) :
    (t.corrections n o).faults = (s.corrections n o).faults := by
  have hAlert : t.settings.alertEnable = s.settings.alertEnable := congrArg (fun x : ServicePort => x.settings.alertEnable) hService
  have hCapture : ∀ f, (t.capture f).faults = (s.capture f).faults := capture_faults_congr hFaults hReset hAlert
  unfold State.corrections
  dsimp only
  rw [hKey]
  by_cases hVote : o.vote = .oneOff
  · rw [if_pos hVote, if_pos hVote]
    split
    · exact capture_faults_congr (hCapture _) (by simpa using hReset) (by simpa using hAlert) _
    · exact hCapture _
  · rw [if_neg hVote, if_neg hVote]
    split
    · exact hCapture _
    · exact hFaults

/-- The corrections touch one class of faults. -/
theorem corrections_get (s : State) (n : Nat) (o : ReadOutcome) {c : FaultClass} (hc : c ≠ .storeCorrected) :
    (s.corrections n o).faults.get c = s.faults.get c := by
  have hCapture : ∀ (x : State) (f : FaultRecord), f.kind.faultClass = .storeCorrected → (x.capture f).faults.get c = x.faults.get c :=
    fun x f hf => (capture_get (t := x) f).1 c (by rw [hf]; exact hc)
  unfold State.corrections
  dsimp only
  split
  · rw [hCapture _ _ rfl]
    split
    · exact hCapture _ _ rfl
    · rfl
  · split
    · exact hCapture _ _ rfl
    · rfl

theorem noted_integrity (s : State) (n : Nat) (o : ReadOutcome) : (s.noted n o).integrity =
    (s.withBucket (blockOf n) (readBucket (s.block (blockOf n)).bucket s.settings.bucketThreshold o)).integrity := by
  unfold State.noted
  rw [corrections_eq]

theorem noted_eq (s : State) (n : Nat) (o : ReadOutcome) : s.noted n o = { s with
    integrity := (s.noted n o).integrity, faults := (s.corrections n o).faults } := by
  have hFaults := corrections_faults_congr (s := s)
    (t := s.withBucket (blockOf n) (readBucket (s.block (blockOf n)).bucket s.settings.bucketThreshold o)) rfl rfl rfl (n := n) rfl o
  rw [noted_integrity, ← hFaults]
  exact corrections_eq (s.withBucket (blockOf n) (readBucket (s.block (blockOf n)).bucket s.settings.bucketThreshold o)) n o

theorem noted_block {s : State} {n : Nat} (hn : n < 1024) (o : ReadOutcome) (m : Nat) : (s.noted n o).block m =
    if m = blockOf n then { s.block (blockOf n) with
      bucket := readBucket (s.block (blockOf n)).bucket s.settings.bucketThreshold o } else s.block m := by
  have hBlock := withBucket_block s (blockOf n) (readBucket (s.block (blockOf n)).bucket s.settings.bucketThreshold o) m
  rw [State.block, noted_integrity, ← State.block, hBlock]
  exact ite_congr (propext (and_iff_left (blockOf_lt hn))) (fun _ => rfl) (fun _ => rfl)

theorem noted_state {s : State} (n : Nat) (o : ReadOutcome) (m : Nat) : ((s.noted n o).block m).state = (s.block m).state := by
  rw [State.block, noted_integrity]
  exact withBucket_state ..

theorem noted_count (s : State) (n : Nat) (o : ReadOutcome) : (s.noted n o).retirementCount = s.retirementCount := by
  have hQueue : (s.noted n o).integrity.retireQueue = s.integrity.retireQueue := by rw [noted_integrity]; rfl
  have hProgress : (s.noted n o).inProgress = s.inProgress := inProgress_congr fun b => by rw [noted_state]
  have hRetired : (s.noted n o).retiredCount = s.retiredCount := retiredCount_congr fun b => by rw [noted_state]
  rw [State.retirementCount, State.retirementCount, hQueue, hProgress, hRetired]

theorem noted_queue (s : State) (n : Nat) (o : ReadOutcome) : (s.noted n o).integrity.retireQueue = s.integrity.retireQueue := by
  rw [noted_integrity]
  rfl

/-- The blocks and the pool after the judgement of a read. -/
structure Judged (s u : State) (n : Nat) (o : ReadOutcome) : Prop where
  bucket : ∀ m, (u.block m).bucket = if m = blockOf n then readBucket (s.block (blockOf n)).bucket s.settings.bucketThreshold o
    else (s.block m).bucket
  pool : ∀ m ∈ u.journal.pool, m ∈ s.journal.pool
  queued : readQueues (s.block (blockOf n)).bucket s.settings.bucketThreshold o = true → (s.block (blockOf n)).state = .inService →
    blockOf n ∉ s.integrity.retireQueue → s.retirementCount < 4 →
    (blockOf n ∈ u.integrity.retireQueue ∨ (u.block (blockOf n)).state ≠ .inService) ∧ u.faults = (s.corrections n o).faults
  refused : readQueues (s.block (blockOf n)).bucket s.settings.bucketThreshold o = true → (s.block (blockOf n)).state = .inService →
    blockOf n ∉ s.integrity.retireQueue → 4 ≤ s.retirementCount →
    (blockOf n ∉ u.integrity.retireQueue ∧ (u.block (blockOf n)).state = .inService) ∧
      u.faults = ((s.corrections n o).capture { kind := .retireLimit, block := some (blockOf n) }).faults
  untried : (s.block (blockOf n)).state ≠ .inService ∨ blockOf n ∈ s.integrity.retireQueue → u.faults = (s.corrections n o).faults

theorem noted_kept {s t : State} {n : Nat} (hn : n < 1024) {o : ReadOutcome} (hBucket : ∀ m, (t.block m).bucket = ((s.noted n o).block m).bucket)
    (hPool : ∀ m ∈ t.journal.pool, m ∈ (s.noted n o).journal.pool) :
    (∀ m, (t.block m).bucket = if m = blockOf n then readBucket (s.block (blockOf n)).bucket s.settings.bucketThreshold o
      else (s.block m).bucket) ∧ ∀ m ∈ t.journal.pool, m ∈ s.journal.pool := by
  refine ⟨fun m => ?_, fun m hm => ?_⟩
  · rw [hBucket, noted_block hn]
    split <;> rfl
  · have hHere := hPool m hm
    rw [noted_eq] at hHere
    exact hHere

theorem judgeRead_of_quiet {s : State} {n : Nat} {o : ReadOutcome}
    (h : readQueues (s.block (blockOf n)).bucket s.settings.bucketThreshold o = false) : s.judgeRead n o = s.noted n o := by
  rw [judgeRead_eq, if_neg (by rw [h]; nofun)]

theorem judged_judgeRead {s : State} {n : Nat} (hn : n < 1024) (o : ReadOutcome) : Judged s (s.judgeRead n o) n o := by
  have hNoted : (s.noted n o).faults = (s.corrections n o).faults := by rw [noted_eq]
  have hState := noted_state (s := s) n o (blockOf n)
  obtain ⟨hEnqueued, hRefused, hStands⟩ := queueBlock_cases (s.noted n o) (blockOf n)
  rw [hState, noted_queue, noted_count] at hEnqueued hRefused
  rw [hState, noted_queue] at hStands
  by_cases hQueues : readQueues (s.block (blockOf n)).bucket s.settings.bucketThreshold o = true
  · rw [judgeRead_eq, if_pos hQueues]
    obtain ⟨-, -, -, hJournal, -, -, hBlocks, -⟩ := queueBlock_frame (s.noted n o) (blockOf n)
    have hRetires := Retires.enterIfDue ((s.noted n o).queueBlock (blockOf n))
    have hFaults : ((s.noted n o).queueBlock (blockOf n)).enterIfDue.faults = ((s.noted n o).queueBlock (blockOf n)).faults := by simp
    obtain ⟨hBucket, hPool⟩ := noted_kept hn (t := ((s.noted n o).queueBlock (blockOf n)).enterIfDue)
      (fun m => (hRetires.bucket m).trans (congrArg (fun x : Vector Block 16 => (x[m]?.getD {}).bucket) hBlocks))
      fun m hm => (congrArg Journal.pool hJournal) ▸ hRetires.pool m hm
    refine ⟨hBucket, hPool, fun _ hs hb hc => ?_, fun _ hs hb hc => ?_, fun h => ?_⟩
    · have hSame := hEnqueued hs hb hc
      rw [hFaults]
      rw [hSame] at hRetires ⊢
      exact ⟨hRetires.waits _ (blockOf_lt hn) (.inl (List.mem_append_right _ (List.mem_singleton_self _))), hNoted⟩
    · have hSame := hRefused hs hb hc
      rw [hFaults]
      rw [hSame] at hRetires ⊢
      refine ⟨hRetires.stays _ (by rw [(capture_frame ..).2.2.2.2.2.2.1, noted_queue]; exact hb) ?_, ?_⟩
      · exact hState.trans hs
      · have hReset : (s.noted n o).resetCtl = (s.corrections n o).resetCtl := by rw [noted_eq, corrections_eq]
        have hService : (s.noted n o).service = (s.corrections n o).service := by rw [noted_eq, corrections_eq]
        exact capture_faults_congr hNoted hReset (congrArg (fun x : ServicePort => x.settings.alertEnable) hService) _
    · rw [hFaults, hStands h, hNoted]
  · have hSame := judgeRead_of_quiet (Bool.eq_false_iff.2 hQueues)
    obtain ⟨hBucket, hPool⟩ := noted_kept (t := s.noted n o) hn (fun _ => rfl) fun _ hm => hm
    rw [hSame]
    exact ⟨hBucket, hPool, fun hc => absurd hc hQueues, fun hc => absurd hc hQueues, fun _ => hNoted⟩

end Sys2Proof.Machine
end

section
/-! PROOFS. The slot reads that lose nothing (R2, R153, R156, R157, R162). -/

-- The proofs are checked one after the other: run at once, their threads would exceed the memory bound of the check.
set_option Elab.async false

namespace Sys2Proof.Machine

/-! The storage as a read finds it (R4, step 1) -/

/-- The state with slot `n` as the read finds it. -/
def State.worn (s : State) (n : Nat) (w : SlotWear) : State := if w = {} then s else s.putSlot n (w.onto (s.stored n))

theorem worn_eq (s : State) (n : Nat) (w : SlotWear) :
    s.worn n w = { s with journal := { s.journal with store := (s.worn n w).journal.store } } := by
  unfold State.worn
  split
  · rfl
  · rfl

theorem worn_stored (s : State) (n : Nat) (w : SlotWear) (m : Nat) :
    (s.worn n w).stored m = if m = n then w.onto (s.stored n) else s.stored m := by
  unfold State.worn
  by_cases hw : w = {}
  · rw [if_pos hw, hw]
    by_cases hm : m = n
    · rw [if_pos hm, hm]
      rfl
    · rw [if_neg hm]
  · rw [if_neg hw]
    exact stored_of_insert (s := s) (t := s.putSlot n (w.onto (s.stored n))) rfl rfl m

theorem readRaw_worn (s : State) (n : Nat) (w : SlotWear) : s.readRaw n w =
    if s.blockRetired (blockOf n) = true then s.worn n w
      else ((s.worn n w).judgeRead n (s.readOutcome n w)).actOnRead n (s.assoc n) (s.readOutcome n w) := rfl

theorem readRaw_of_retired {s : State} {n : Nat} (h : (s.block (n / 64)).state = .retired) (w : SlotWear) : s.readRaw n w = s.worn n w :=
  (readRaw_worn s n w).trans (if_pos (decide_eq_true h))

theorem readRaw_of_not_retired {s : State} {n : Nat} (h : (s.block (n / 64)).state ≠ .retired) (w : SlotWear) : s.readRaw n w =
    ((s.worn n w).judgeRead n (s.readOutcome n w)).actOnRead n (s.assoc n) (s.readOutcome n w) :=
  (readRaw_worn s n w).trans (if_neg fun hc => h (of_decide_eq_true hc))

/-! A clean read changes nothing -/

theorem setBlock_self (i : Integrity) (b : Nat) : i.setBlock b (i.block b) = i := by
  unfold Integrity.setBlock Integrity.block
  have hBlocks : i.blocks.setIfInBounds b (i.blocks[b]?.getD {}) = i.blocks := by
    refine Vector.ext fun c hc => ?_
    rw [Vector.getElem_setIfInBounds]
    split
    · next h =>
      subst h
      rw [Vector.getElem?_eq_getElem hc]
      rfl
    · rfl
  rw [hBlocks]

theorem judgeRead_clean (s : State) (n : Nat) : s.judgeRead n ⟨.agree, .clean⟩ = s := by
  have hSame : s.noted n ⟨.agree, .clean⟩ = s := by
    show s.withBucket (blockOf n) (s.block (blockOf n)).bucket = s
    rw [withBucket_eq]
    exact congrArg s.setIntegrity (setBlock_self s.integrity (blockOf n))
  rw [judgeRead_of_quiet, hSame]
  unfold readQueues
  simp [readBucket, VoteOutcome.lost]

theorem readRaw_clean {s : State} {n : Nat} {w : SlotWear} (h : s.readOutcome n w = ⟨.agree, .clean⟩) : s.readRaw n w = s.worn n w := by
  rw [readRaw_worn]
  split
  · rfl
  · rw [h, judgeRead_clean]
    rfl

/-! A repaired read (R157) -/

/-- The outcomes of a read that repairs: the vote keeps the key, the body is not lost, and one of them needs a correction. -/
structure Repairs (o : ReadOutcome) : Prop where
  vote : o.vote = .agree ∨ o.vote = .oneOff
  ecc : o.ecc = .clean ∨ o.ecc = .corrected
  some : o.vote = .oneOff ∨ o.ecc = .corrected

namespace Repairs

variable {o : ReadOutcome}

theorem not_lost (h : Repairs o) : o.vote.lost = false := by
  rcases h.vote with hv | hv <;> rw [hv] <;> rfl

/-- The number of corrections. -/
def count (o : ReadOutcome) : Nat := (if o.vote = .oneOff then 1 else 0) + (if o.ecc = .corrected then 1 else 0)

theorem count_pos (h : Repairs o) : 0 < count o := by
  unfold count
  rcases h.some with hs | hs
  · rw [if_pos hs]
    omega
  · rw [if_pos hs]
    omega

theorem readBucket_eq (h : Repairs o) (bucket threshold : Nat) : readBucket bucket threshold o = min 15 (bucket + count o) := by
  unfold readBucket count
  rw [h.not_lost]
  rcases h.ecc with he | he
  · have hv : o.vote = .oneOff := h.some.resolve_right (by rw [he]; nofun)
    rw [he, hv]
    rfl
  · rw [he]
    by_cases hv : o.vote = .oneOff
    · rw [if_pos hv, if_pos hv]
      show min 15 (min 15 (bucket + 1) + 1) = min 15 (bucket + (1 + 1))
      omega
    · rw [if_neg hv, if_neg hv]
      rfl

theorem queues_iff (h : Repairs o) (bucket threshold : Nat) : readQueues bucket threshold o = true ↔
    min 15 (bucket + count o) ≠ bucket ∧ threshold ≤ min 15 (bucket + count o) := by
  unfold readQueues
  rw [h.not_lost, h.readBucket_eq, decide_eq_false (by rcases h.ecc with he | he <;> rw [he] <;> nofun)]
  simp only [Bool.false_or, Bool.and_eq_true, decide_eq_true_eq]

theorem actOnRead_eq (h : Repairs o) (s : State) (n : Nat) (a : Option Association) :
    s.actOnRead n a o = if a = none then s.freeWrite n else s.rewrite n := by
  unfold State.actOnRead
  rw [h.not_lost]
  rcases h.ecc with he | he
  · have hv : o.vote = .oneOff := h.some.resolve_right (by rw [he]; nofun)
    rw [he, hv]
    cases a with
    | none => rfl
    | some a => rfl
  · rw [he]
    cases a with
    | none => rfl
    | some a => rfl

end Repairs

/-- The slot's contents after a rewrite. -/
def State.repaired (s : State) (n : Nat) : StoredSlot :=
  if s.assoc n = none then freeSlot else { keys := KeyCopies.all (s.expectedKey n), body := (s.stored n).body, ecc := .clean }

theorem repaired_cases (s : State) (n : Nat) :
    (∀ k, s.keyAt n = some k → s.repaired n = ⟨⟨.key k, .key k, .key k⟩, (s.stored n).body, .clean⟩) ∧
    (s.keyAt n = none → s.repaired n = freeSlot) := by
  unfold State.repaired State.expectedKey
  refine ⟨fun k hk => ?_, fun hk => if_pos (Option.map_eq_none_iff.1 hk)⟩
  rw [hk]
  refine if_neg fun hNone => ?_
  rw [State.keyAt, hNone] at hk
  cases hk

theorem actOnRead_repairs {s u : State} {n : Nat} {o : ReadOutcome} (h : Repairs o) (hIndex : u.journal.index = s.journal.index)
    (hBody : (u.stored n).body = (s.stored n).body) : u.actOnRead n (s.assoc n) o = u.putSlot n (s.repaired n) := by
  have hAssoc : u.assoc n = s.assoc n := by rw [State.assoc, hIndex]; rfl
  have hKey : u.expectedKey n = s.expectedKey n := by
    unfold State.expectedKey State.keyAt
    rw [hAssoc]
  rw [h.actOnRead_eq, State.repaired]
  by_cases hNone : s.assoc n = none
  · rw [if_pos hNone, if_pos hNone]
    rfl
  · rw [if_neg hNone, if_neg hNone, State.rewrite, hKey, hBody]

/-- The slots of the judged state are those that the read found. -/
theorem judged_slots (s : State) (n : Nat) (w : SlotWear) (o : ReadOutcome) :
    ((s.worn n w).judgeRead n o).journal.index = s.journal.index ∧
    (∀ m, ((s.worn n w).judgeRead n o).assoc m = s.assoc m) ∧
    (∀ m, ((s.worn n w).judgeRead n o).stored m = if m = n then w.onto (s.stored n) else s.stored m) := by
  obtain ⟨-, -, hStore, hIndex, -, -, -, -, -, -, -, -, -, -, -, -, -, hFree, -⟩ := judgeRead_frame (s.worn n w) n o
  have hIndex' : ((s.worn n w).judgeRead n o).journal.index = s.journal.index := hIndex.trans (by rw [worn_eq])
  refine ⟨hIndex', fun m => by rw [State.assoc, hIndex']; rfl, fun m => ?_⟩
  rw [← worn_stored]
  unfold State.stored
  rw [hStore, hFree]

/-- The faults of a read's corrections are those of the state before the read. -/
theorem worn_corrections (s : State) (n : Nat) (w : SlotWear) (o : ReadOutcome) :
    ((s.worn n w).corrections n o).faults = (s.corrections n o).faults := by
  have hParts := fun {α : Type} (f : State → α) => congrArg f (worn_eq s n w)
  exact corrections_faults_congr (s := s) (hParts State.faults) (hParts State.resetCtl) (hParts State.service) (hParts fun x => x.keyAt n) o

theorem capture_first (s : State) (f : FaultRecord) : ((s.capture f).faults.get f.kind.faultClass).first.isSome = true := by
  obtain ⟨hFills, hJoins, -⟩ := faultsFillOrJoin s f
  cases hFirst : (s.faults.get f.kind.faultClass).first with
  | none =>
    rw [hFills hFirst]
    rfl
  | some r =>
    rw [hJoins (by rw [hFirst]; rfl)]
    exact congrArg Option.isSome hFirst

/-- Settles O47, by the majority of the copies, the slot as the read found it, and the judgement of a repaired read. -/
theorem readsVoteAndRepair : Obligations.ReadsVoteAndRepair := by
  unfold Obligations.ReadsVoteAndRepair
  refine ⟨fun a b v => ⟨?_, fun ha => ?_, fun c h1 h2 h3 => vote_split h1 h2 h3 v⟩, ?_⟩
  · exact (vote_of_majority (majority_of_two v v).1 v).trans ((if_pos rfl).trans (if_pos ⟨rfl, rfl⟩))
  · obtain ⟨h1, h2, h3⟩ := vote_oneOff ha
    obtain ⟨g1, g2, g3⟩ := vote_of_two (b := b) ha
    exact ⟨h1, h2, h3, g3, g2, g1⟩
  intro s n w hn found o t b oneOff corrected rises bucket
  have hWorn := fun m => worn_stored s n w m
  refine ⟨?_, fun h => ?_, fun hLive hVote hEcc hSome => ?_⟩
  · simp only [o, found, State.readOutcome, State.expectedKey]
    cases s.keyAt n <;> rfl
  · have hRead : t = s.worn n w := h.elim (fun hr => readRaw_of_retired hr w) readRaw_clean
    rw [hRead]
    exact ⟨by rw [hWorn, if_pos rfl]; rfl, fun m hm => by rw [hWorn, if_neg hm], worn_eq s n w⟩
  have hRepairs : Repairs o := ⟨hVote, hEcc, hSome⟩
  obtain ⟨hIndex, hAssoc, hStored⟩ := judged_slots s n w o
  have hJudged := judged_judgeRead (s := s.worn n w) hn o
  have hRead : t = ((s.worn n w).judgeRead n o).putSlot n (s.repaired n) :=
    (readRaw_of_not_retired hLive w).trans (actOnRead_repairs hRepairs hIndex (by rw [hStored, if_pos rfl]; rfl))
  obtain ⟨hSessions, hArbiter, -, -, hOrphans, hStamp, hGen, hComp, -, -, -, hSweeper, -, -, -, hService, -⟩ :=
    judgeRead_frame (s.worn n w) n o
  have hParts := fun {α : Type} (f : State → α) => congrArg f (worn_eq s n w)
  have hBucket : bucket = min 15 (b.bucket + Repairs.count o) := if_pos hRepairs.count_pos
  have hHome : (s.worn n w).block (blockOf n) = b := hParts fun x => x.block (blockOf n)
  have hThreshold : (s.worn n w).settings.bucketThreshold = s.settings.bucketThreshold := hParts fun x => x.settings.bucketThreshold
  have hQueue : (s.worn n w).integrity.retireQueue = s.integrity.retireQueue := hParts fun x => x.integrity.retireQueue
  have hCount : (s.worn n w).retirementCount = s.retirementCount := hParts State.retirementCount
  have hNew : readBucket b.bucket s.settings.bucketThreshold o = bucket := by rw [hRepairs.readBucket_eq, hBucket]
  have hQueues : readQueues b.bucket s.settings.bucketThreshold o = true ↔ bucket ≠ b.bucket ∧ s.settings.bucketThreshold ≤ bucket := by
    rw [hRepairs.queues_iff, ← hBucket]
  obtain ⟨hBuckets, hPool, hQueued, hRefused, -⟩ := hJudged
  rw [hHome, hThreshold] at hBuckets hQueued hRefused
  rw [hQueue, hCount] at hQueued hRefused
  have hPut : ∀ m, (((s.worn n w).judgeRead n o).putSlot n (s.repaired n)).stored m =
      if m = n then s.repaired n else ((s.worn n w).judgeRead n o).stored m := stored_of_insert rfl rfl
  rw [hRead]
  refine ⟨?_, fun m hm => ?_, ?_, fun m hm => ?_, hIndex, hOrphans.trans (hParts fun x => x.journal.orphans), hStamp.trans (hParts fun x => x.journal.stamp),
    hGen.trans (hParts fun x => x.journal.generation), hComp.trans (hParts fun x => x.journal.compromised),
    hSessions.trans (hParts State.sessions), hSweeper.trans (hParts State.sweeper), hArbiter.trans (hParts State.arbiter),
    hService.trans (hParts State.service), fun hQuiet => ?_, fun hHigh hRose hIn hOut => ?_⟩
  · rw [hPut, if_pos rfl]
    cases hk : s.keyAt n with
    | none => exact (repaired_cases s n).2 hk
    | some k => exact (repaired_cases s n).1 k hk
  · rw [hPut, if_neg hm, hStored, if_neg hm]
  · exact (hBuckets (n / 64)).trans ((if_pos rfl).trans hNew)
  · exact (hBuckets m).trans ((if_neg hm).trans (hParts fun x => (x.block m).bucket))
  · have hNot : readQueues b.bucket s.settings.bucketThreshold o = false :=
      Bool.eq_false_iff.2 fun hc => hQuiet.elim (Nat.not_lt.2 (hQueues.1 hc).2) (hQueues.1 hc).1
    have hSame : (s.worn n w).judgeRead n o = (s.worn n w).noted n o := judgeRead_of_quiet (by rw [hHome, hThreshold]; exact hNot)
    have hState := noted_state (s := s.worn n w) n o
    have hNoted := fun {α : Type} (f : State → α) => congrArg f (noted_eq (s.worn n w) n o)
    rw [hSame]
    refine ⟨?_, (hNoted fun x => x.journal.pool).trans (hParts fun x => x.journal.pool), (noted_queue ..).trans hQueue,
      fun m => (hState m).trans (hParts fun x => (x.block m).state), (hNoted State.notices).trans (hParts State.notices),
      (hNoted State.links).trans (hParts State.links), (hNoted State.engine).trans (hParts State.engine)⟩
    refine (hNoted State.faults).trans ((worn_corrections s n w o).trans ?_)
    refine congrArg State.faults (ite_congr (propext ?_) (fun _ => rfl) (fun _ => rfl))
    exact and_iff_left hRepairs.not_lost
  · have hTested := hQueues.2 ⟨hRose, hHigh⟩
    refine ⟨fun hRoom => (hQueued hTested hIn hOut hRoom).1, fun hFull => ?_⟩
    obtain ⟨⟨hNot, hService⟩, hFaults⟩ := hRefused hTested hIn hOut hFull
    exact ⟨hService, (congrArg (fun x : Faults => x.capacity.first.isSome) hFaults).trans (capture_first _ { kind := .retireLimit, block := some (blockOf n) }), hNot⟩

end Sys2Proof.Machine
end

section
/-! PROOFS. What a slot read that loses something does with the entry, the pool and the notices (R96, R158 to R161). -/

-- The proofs are checked one after the other: run at once, their threads would exceed the memory bound of the check.
set_option Elab.async false

namespace Sys2Proof.Machine

/-! Notices that have been raised stay raised -/

/-- From `s` to `t` no flag is cleared, and no raise that waits is lost. -/
structure Tells (s t : State) : Prop where
  sent : s.notices.held = none → t.notices.held = none ∧
    ∀ q k, ((s.notices.flags.get q).get k).isSome = true → ((t.notices.flags.get q).get k).isSome = true
  waits : ∀ l, s.notices.held = some l → ∃ l', t.notices.held = some (l ++ l')

namespace Tells

theorem of_notices {s t : State} (h : t.notices = s.notices) : Tells s t := by
  refine ⟨fun hNone => ?_, fun l hl => ⟨[], ?_⟩⟩
  · rw [h]
    exact ⟨hNone, fun _ _ hk => hk⟩
  · rw [h, hl, List.append_nil]

theorem trans {s t u : State} (h : Tells s t) (h' : Tells t u) : Tells s u := by
  refine ⟨fun hNone => ?_, fun l hl => ?_⟩
  · obtain ⟨hHeld, hFlags⟩ := h.sent hNone
    obtain ⟨hHeld', hFlags'⟩ := h'.sent hHeld
    exact ⟨hHeld', fun q k hk => hFlags' q k (hFlags q k hk)⟩
  · obtain ⟨l1, h1⟩ := h.waits l hl
    obtain ⟨l2, h2⟩ := h'.waits _ h1
    exact ⟨l1 ++ l2, by rw [h2, List.append_assoc]⟩

theorem raise (s : State) (p : Port) (k : NoticeKind) (w : Option Word) : Tells s (s.raise p k w) := by
  refine ⟨fun hNone => ?_, fun l hl => ?_⟩
  · obtain ⟨hKinds, hPort, -, -, hFrame⟩ := takeRaise_other s p k w
    have hHeld : (s.takeRaise ⟨p, k, w⟩).notices.held = none := by
      rw [hFrame]
      exact hNone
    rw [raise_of_none hNone]
    refine ⟨hHeld, fun q k' hk' => ?_⟩
    rcases Port.eq_or_other p q with rfl | rfl
    · by_cases hk : k' = k
      · subst hk
        rw [takeRaise_of_set hk' w]
        exact hk'
      · rw [hKinds k' hk]
        exact hk'
    · rw [hPort]
      exact hk'
  · rw [raise_of_held hl]
    split
    · exact ⟨_, rfl⟩
    · exact ⟨[], by rw [hl, List.append_nil]⟩

theorem raiseBoth (s : State) (k : NoticeKind) (w : Option Word) : Tells s (s.raiseBoth k w) := (raise s .a k w).trans (raise _ .b k w)

theorem lowWaterTest (s : State) : Tells s s.lowWaterTest := by
  rcases lowWaterTest_cases s with ⟨-, -, h⟩ | ⟨-, h⟩
  · rw [h]
    exact .trans (t := { s with engine := { s.engine with armed := false } }) (.of_notices rfl) (raiseBoth ..)
  · rw [h]
    exact .of_notices rfl

theorem testProgress (s : State) : Tells s s.testProgress := by
  rcases testProgress_cases s with ⟨h, -⟩ | ⟨b, -, -, -, h⟩ | ⟨b, -, -, -, h⟩
  · rw [h]
    exact .of_notices rfl
  · rw [h]
    exact (raiseBoth s .blockRetired (some (wordOf b))).trans (.of_notices (retire_told s b).1)
  · rw [h]
    exact .of_notices rfl

theorem enterClosing (s : State) (b : Nat) (rest : List Nat) : Tells s (s.enterClosing b rest) := by
  rw [enterClosing_eq]
  split
  · exact .trans (t := s.withdrawn b rest) (.of_notices rfl) ((lowWaterTest _).trans (.of_notices rfl))
  · exact .of_notices rfl

theorem settle (s : State) : Tells s s.settle :=
  (settleWithin_induction (P := Tells s) (Q := fun _ => True) (fun _ h => ⟨h.trans (testProgress _), trivial⟩)
    (fun _ b rest h _ _ _ => h.trans (enterClosing _ b rest)) _ (.of_notices rfl)).1

theorem enterIfDue (s : State) : Tells s s.enterIfDue := by
  unfold State.enterIfDue
  split
  · exact settle s
  · exact .of_notices rfl

theorem lowerHoldings (s : State) (p : Port) : Tells s (s.lowerHoldings p) := by
  obtain ⟨hDrained, hStays⟩ := lowerHoldings_cases s p
  by_cases h : (s.session p).state = .draining ∧ (s.session p).holdings ≤ 1 ∧ (s.session p).adoptions = 0
  · rw [hDrained h]
    exact .trans (t := s.setSession p (ended (s.session p) .detached)) (.of_notices rfl) (raise ..)
  · rw [hStays h]
    exact .of_notices rfl

theorem lowerAdoptions (s : State) (p : Port) : Tells s (s.lowerAdoptions p) := by
  obtain ⟨hDrained, hStays⟩ := lowerAdoptions_cases s p
  by_cases h : (s.session p).state = .draining ∧ (s.session p).adoptions ≤ 1 ∧ (s.session p).holdings = 0
  · rw [hDrained h]
    exact .trans (t := s.setSession p (ended (s.session p) .detached)) (.of_notices rfl) (raise ..)
  · rw [hStays h]
    exact .of_notices rfl

theorem lowerHolders (s : State) (h : HolderSummary) : Tells s (s.lowerHolders h) := by
  have hIf : ∀ (c : Bool) (p : Port) (t : State), Tells s t → Tells s (if c = true then t.lowerHoldings p else t) := fun c p t ht => by
    split
    · exact ht.trans (lowerHoldings t p)
    · exact ht
  unfold State.lowerHolders
  dsimp only
  have hBoth := hIf (s.summaryLive .b h.holdB) .b _ (hIf (s.summaryLive .a h.holdA) .a s (.of_notices rfl))
  split
  · split
    · exact hBoth.trans (lowerAdoptions ..)
    · exact hBoth
  · exact hBoth

theorem judgeRead (s : State) (n : Nat) (o : ReadOutcome) : Tells s (s.judgeRead n o) := by
  have hNoted : Tells s (s.noted n o) := .of_notices (by rw [noted_eq])
  rw [judgeRead_eq]
  split
  · exact (hNoted.trans (.of_notices (by simp))).trans (enterIfDue _)
  · exact hNoted

end Tells

/-- A repeating kind raised for both ports: its flags are set, or its raises wait (R143, R135). -/
structure Told (s t : State) (k : NoticeKind) : Prop where
  flag : s.notices.held = none → ∀ q, ((t.notices.flags.get q).get k).isSome = true
  waits : ∀ l, s.notices.held = some l → ∀ q, (⟨q, k, none⟩ : Raise) ∈ t.notices.held.getD []

theorem Told.tells {s t u : State} {k : NoticeKind} (h : Told s t k) (hHeld : Tells s t) (h' : Tells t u) : Told s u k := by
  refine ⟨fun hNone q => (h'.sent (hHeld.sent hNone).1).2 q k (h.flag hNone q), fun l hl q => ?_⟩
  obtain ⟨l1, h1⟩ := hHeld.waits l hl
  obtain ⟨l2, h2⟩ := h'.waits _ h1
  have hMem := h.waits l hl q
  rw [h1] at hMem
  rw [h2]
  exact List.mem_append_left _ hMem

theorem Told.of_tells {s t u : State} {k : NoticeKind} (h' : Tells s t) (h : Told t u k) : Told s u k := by
  refine ⟨fun hNone q => h.flag (h'.sent hNone).1 q, fun l hl q => ?_⟩
  obtain ⟨l1, h1⟩ := h'.waits l hl
  exact h.waits _ h1 q

theorem raise_told {s : State} {k : NoticeKind} (hk : k.repeating = true) (p : Port) :
    (s.notices.held = none → (((s.raise p k none).notices.flags.get p).get k).isSome = true) ∧
    (∀ l, s.notices.held = some l → (⟨p, k, none⟩ : Raise) ∈ (s.raise p k none).notices.held.getD []) := by
  refine ⟨fun hNone => ?_, fun l hl => ?_⟩
  · rw [raise_of_none hNone]
    by_cases hSet : ((s.notices.flags.get p).get k).isSome = true
    · rw [takeRaise_of_set hSet]
      exact hSet
    · rw [(takeRaise_parts (Bool.eq_false_iff.2 hSet) none).1, (flagged_parts s p k none).1 hk]
      rfl
  · rw [raise_of_held hl, if_pos (.inl hk)]
    exact List.mem_append_right _ (List.mem_singleton_self _)

theorem told_raiseBoth (s : State) {k : NoticeKind} (hk : k.repeating = true) : Told s (s.raiseBoth k none) k := by
  have hA := Tells.raise s .a k none
  have hB := Tells.raise (s.raise .a k none) .b k none
  refine ⟨fun hNone q => ?_, fun l hl q => ?_⟩
  · cases q with
    | a => exact (hB.sent (hA.sent hNone).1).2 .a k ((raise_told hk .a).1 hNone)
    | b => exact (raise_told hk .b).1 (hA.sent hNone).1
  · obtain ⟨l1, h1⟩ := hA.waits l hl
    obtain ⟨l2, h2⟩ := hB.waits _ h1
    cases q with
    | a =>
      have hMem := (raise_told hk .a).2 l hl
      rw [h1] at hMem
      show _ ∈ ((s.raise .a k none).raise .b k none).notices.held.getD []
      rw [h2]
      exact List.mem_append_left _ hMem
    | b => exact (raise_told hk .b).2 _ h1

/-! Tests that find nothing to do -/

/-- With live entries left in a block in progress, and none due to enter CLOSING, the tests tell nothing. -/
theorem settle_quiet {s : State} (hDue : s.closingDue = false)
    (hLeft : s.engine.state = .ready → s.inProgress.isSome = true → 0 < s.integrity.reserve) :
    s.settle.notices = s.notices ∧ s.settle.links = s.links ∧ s.settle.journal = s.journal ∧ s.settle.engine = s.engine := by
  by_cases hReady : s.engine.state = .ready
  · cases hb : s.inProgress with
    | none =>
      rw [settle_eq, testProgress_of_idle (.inr hb), enterIfDue_of_not_due hDue]
      exact ⟨rfl, rfl, rfl, rfl⟩
    | some b =>
      rw [settle_progresses hReady hb (hLeft hReady (by rw [hb]; rfl))]
      exact ⟨rfl, rfl, rfl, rfl⟩
  · rw [settle_eq, testProgress_of_idle (.inl hReady), enterIfDue_of_not_due hDue]
    exact ⟨rfl, rfl, rfl, rfl⟩

theorem closingDue_congr {s t : State} (hState : t.engine.state = s.engine.state) (hBlocks : t.integrity.blocks = s.integrity.blocks)
    (hQueue : t.integrity.retireQueue = s.integrity.retireQueue) : t.closingDue = s.closingDue := by
  rw [Bool.eq_iff_iff, closingDue_iff, closingDue_iff, hState, inProgress_of_blocks hBlocks, hQueue]

end Sys2Proof.Machine
end

section
/-! PROOFS. The four reads that lose something (R96, R158 to R161). -/

-- The proofs are checked one after the other: run at once, their threads would exceed the memory bound of the check.
set_option Elab.async false

namespace Sys2Proof.Machine

theorem capture_eq (s : State) (f : FaultRecord) : s.capture f = { s with faults := (s.capture f).faults } := (faultsFillOrJoin s f).2.2.2.2

/-! A vote lost on a live slot (R160) -/

theorem strike_eq (s : State) (n : Nat) (k : RegionKey) : s.strike n k = { s with
    arbiter := s.arbiterWithout n
    journal := { s.journal with
      store := SlotMap.insert n freeSlot s.journal.store
      index := SlotMap.erase n s.journal.index
      orphans := s.journal.orphans.filter fun o => o.key ≠ k }
    integrity := { s.integrity with
      reserve := if (s.block (blockOf n)).state.inProgress = true then s.integrity.reserve - 1 else s.integrity.reserve } } := by
  have hHome : (((s.dropOrphan k).unlink n).freeWrite n).block (blockOf n) = s.block (blockOf n) := rfl
  unfold State.strike
  dsimp only
  rw [hHome]
  by_cases h : (s.block (blockOf n)).state.inProgress = true
  · rw [if_pos h, if_pos h]
    rfl
  · rw [if_neg h, if_neg h]
    rfl

/-- The state once the entry is gone and announced, before the tests for a retirement. -/
def State.struck (s : State) (n : Nat) (k : RegionKey) : State :=
  (((s.strike n k).setJournal { (s.strike n k).journal with compromised := true }).raiseBoth .journalCompromised none).capture
    { kind := .keyLost, slot := some n, block := some (blockOf n), key := some k }

theorem loseEntry_struck (s : State) (n : Nat) (a : Association) : s.loseEntry n a = ((s.lowerHolders a.summary).struck n a.key).settle := rfl

theorem struck_eq (s : State) (n : Nat) (k : RegionKey) : s.struck n k = { s with
    arbiter := s.arbiterWithout n
    journal := { s.journal with
      store := SlotMap.insert n freeSlot s.journal.store
      index := SlotMap.erase n s.journal.index
      orphans := s.journal.orphans.filter fun o => o.key ≠ k
      compromised := true }
    integrity := { s.integrity with
      reserve := if (s.block (blockOf n)).state.inProgress = true then s.integrity.reserve - 1 else s.integrity.reserve }
    notices := (s.raiseBoth .journalCompromised none).notices
    links := (s.raiseBoth .journalCompromised none).links
    faults := (s.capture { kind := .keyLost, slot := some n, block := some (blockOf n), key := some k }).faults } := by
  have hAlike : Alike s ((s.strike n k).setJournal { (s.strike n k).journal with compromised := true }) := by
    rw [strike_eq]
    exact .of_sessions rfl rfl rfl
  have hFaults := capture_faults_congr (s := s)
    (t := ((s.strike n k).setJournal { (s.strike n k).journal with compromised := true }).told (s.raiseBoth .journalCompromised none))
    (by rw [strike_eq]; rfl) (by rw [strike_eq]; rfl) (by rw [strike_eq]; rfl)
    { kind := .keyLost, slot := some n, block := some (blockOf n), key := some k }
  rw [State.struck, raiseBoth_alike hAlike, capture_eq, hFaults, strike_eq]
  rfl

theorem struck_inProgress (s : State) (n : Nat) (k : RegionKey) : (s.struck n k).inProgress = s.inProgress :=
  inProgress_of_blocks (by rw [struck_eq])

/-- What a lost entry leaves, `y` being the state with its holders' counts lowered (R160). -/
structure Lost (y t : State) (n : Nat) (k : RegionKey) : Prop where
  stored : t.stored n = freeSlot
  orphans : t.journal.orphans = y.journal.orphans.filter fun x => x.key ≠ k
  compromised : t.journal.compromised = true
  arbiter : t.arbiter = y.arbiterWithout n
  told : Told y t .journalCompromised
  quiet : y.closingDue = false → (y.engine.state = .ready → y.inProgress.isSome = true → 1 < y.integrity.reserve) →
    t.notices = (y.raiseBoth .journalCompromised none).notices ∧ t.links = (y.raiseBoth .journalCompromised none).links
  faults : t.faults = (y.capture { kind := .keyLost, slot := some n, block := some (blockOf n), key := some k }).faults
  retires : Retires y t

theorem lost_settle_struck (y : State) (n : Nat) (k : RegionKey) : Lost y (y.struck n k).settle n k := by
  have hStruck := fun {α : Type} (f : State → α) => congrArg f (struck_eq y n k)
  obtain ⟨-, hArbiter, hStore, -, hOrphans, -, -, hComp, -, -, -, -, -, -, -, -, hFaults, -, hFree, -⟩ := settle_frame (y.struck n k)
  have hTold : Told y (y.struck n k) .journalCompromised := by
    have hRaise := told_raiseBoth y (k := .journalCompromised) rfl
    refine ⟨fun hNone q => ?_, fun l hl q => ?_⟩
    · rw [hStruck State.notices]
      exact hRaise.flag hNone q
    · rw [hStruck State.notices]
      exact hRaise.waits l hl q
  have hTells : Tells y (y.struck n k) := (Tells.raiseBoth y .journalCompromised none).trans (.of_notices (hStruck State.notices))
  refine ⟨?_, hOrphans.trans (hStruck fun x => x.journal.orphans), hComp.trans (hStruck fun x => x.journal.compromised),
    hArbiter.trans (hStruck State.arbiter), hTold.tells hTells (.settle _), fun hDue hLeft => ?_, hFaults.trans (hStruck State.faults),
    .trans (.of_integrity (hStruck fun x => x.integrity.blocks) (hStruck fun x => x.integrity.retireQueue) fun m hm => ?_) (.settle _)⟩
  · have hHere := stored_of_insert (s := y) (t := (y.struck n k).settle) (n := n) (x := freeSlot)
      (hStore.trans (hStruck fun x => x.journal.store)) (hFree.trans (hStruck State.freeCount)) n
    rw [hHere, if_pos rfl]
  · have hDue' : (y.struck n k).closingDue = false :=
      (closingDue_congr (hStruck fun x => x.engine.state) (hStruck fun x => x.integrity.blocks)
        (hStruck fun x => x.integrity.retireQueue)).trans hDue
    obtain ⟨hNotices, hLinks, -⟩ := settle_quiet hDue' fun hReady hSome => by
      have hMore := hLeft ((hStruck fun x => x.engine.state).symm.trans hReady) (by rw [← struck_inProgress y n k]; exact hSome)
      rw [hStruck fun x => x.integrity.reserve]
      dsimp only
      split
      · omega
      · omega
    exact ⟨hNotices.trans (hStruck State.notices), hLinks.trans (hStruck State.links)⟩
  · rw [hStruck State.journal] at hm
    exact hm

/-- The last entries of a block in progress (R160, R169). -/
theorem settle_struck_reserve {y : State} {n : Nat} {k : RegionKey} (hb : y.inProgress = some (blockOf n)) (hEmpty : y.integrity.retireQueue = []) :
    (y.struck n k).settle.integrity.reserve = y.integrity.reserve - 1 ∧
    (y.engine.state = .ready → y.integrity.reserve ≤ 1 → ((y.struck n k).settle.block (blockOf n)).state = .retired) := by
  have hStruck := fun {α : Type} (f : State → α) => congrArg f (struck_eq y n k)
  have hReserve : (y.struck n k).integrity.reserve = y.integrity.reserve - 1 :=
    (hStruck fun x => x.integrity.reserve).trans (if_pos (inProgress_of_some hb))
  obtain ⟨-, hRetired, -, hKept, -⟩ := settle_told (.refl (y.struck n k)) ((hStruck fun x => x.integrity.retireQueue).trans hEmpty)
  refine ⟨hKept.trans hReserve, fun hReady hLast => ?_⟩
  exact (hRetired (blockOf n) ((hStruck fun x => x.engine.state).trans hReady) ((struck_inProgress y n k).trans hb) (by rw [hReserve]; omega)).1

/-! A vote lost on another slot (R161) -/

/-- What a lost free slot leaves (R161). -/
structure Withdrawn (u t : State) (n : Nat) : Prop where
  stored : t.stored n = freeSlot
  pool : n ∉ t.journal.pool
  quiet : n ∈ u.journal.pool → u.closingDue = false → (u.engine.state = .ready → u.inProgress.isSome = true → 0 < u.integrity.reserve) →
    t.journal.pool = u.journal.pool.filter (fun m => m ≠ n) ∧ LowWater u t t.pooled
  reserve : u.integrity.retireQueue = [] → t.integrity.reserve = u.integrity.reserve
  faults : t.faults = (u.capture { kind := .keyLost, slot := some n, block := some (blockOf n) }).faults
  retires : Retires u t

/-- The state with a free slot written and taken out of the pool. -/
def State.unpooled (u : State) (n : Nat) : State := { u with journal := { u.journal with
  store := SlotMap.insert n freeSlot u.journal.store, pool := u.journal.pool.filter fun m => m ≠ n } }

theorem loseFreeSlot_eq (u : State) (n : Nat) : u.loseFreeSlot n =
    (if n ∈ u.journal.pool then (u.unpooled n).lowWaterTest.settle else u.freeWrite n).capture
      { kind := .keyLost, slot := some n, block := some (blockOf n) } := by
  unfold State.loseFreeSlot
  exact congrArg (fun x : State => x.capture _) (ite_congr (propext List.contains_iff_mem) (fun _ => rfl) (fun _ => rfl))

theorem Withdrawn.capture {u x : State} {n : Nat} (hStored : x.stored n = freeSlot) (hPool : n ∉ x.journal.pool)
    (hQuiet : n ∈ u.journal.pool → u.closingDue = false →
      (u.engine.state = .ready → u.inProgress.isSome = true → 0 < u.integrity.reserve) →
      x.journal.pool = u.journal.pool.filter (fun m => m ≠ n) ∧ LowWater u x x.pooled)
    (hReserve : u.integrity.retireQueue = [] → x.integrity.reserve = u.integrity.reserve) (hFaults : x.faults = u.faults)
    (hReset : x.resetCtl = u.resetCtl) (hService : x.service = u.service) (hRetires : Retires u x) :
    Withdrawn u (x.capture { kind := .keyLost, slot := some n, block := some (blockOf n) }) n := by
  have hCaptured := capture_faults_congr hFaults hReset (congrArg (fun s : ServicePort => s.settings.alertEnable) hService)
    { kind := .keyLost, slot := some n, block := some (blockOf n) }
  rw [capture_eq, hCaptured]
  exact ⟨hStored, hPool, hQuiet, hReserve, rfl, hRetires.trans (.of_integrity rfl rfl fun _ hm => hm)⟩

theorem withdrawn_loseFreeSlot (u : State) (n : Nat) : Withdrawn u (u.loseFreeSlot n) n := by
  have hWritten : ∀ t : State, t.journal.store = SlotMap.insert n freeSlot u.journal.store → t.freeCount = u.freeCount →
      t.stored n = freeSlot := fun t hStore hFree => by rw [stored_of_insert hStore hFree n, if_pos rfl]
  rw [loseFreeSlot_eq]
  by_cases hn : n ∈ u.journal.pool
  · rw [if_pos hn]
    have hTest := fun {α : Type} (f : State → α) => congrArg f (lowWaterTest_eq (u.unpooled n))
    obtain ⟨-, -, hStore, -, -, -, -, -, -, -, -, -, -, -, -, hService, hFaults, hReset, hFree, -⟩ := settle_frame (u.unpooled n).lowWaterTest
    have hSettle := Retires.settle (u.unpooled n).lowWaterTest
    have hBlocks : (u.unpooled n).lowWaterTest.integrity = u.integrity := hTest State.integrity
    have hState : (u.unpooled n).lowWaterTest.engine.state = u.engine.state := by simp [State.unpooled]
    have hPool : (u.unpooled n).lowWaterTest.journal.pool = u.journal.pool.filter fun m => m ≠ n := hTest fun x => x.journal.pool
    have hSub : ∀ m ∈ (u.unpooled n).lowWaterTest.settle.journal.pool, m ∈ u.journal.pool.filter fun m => m ≠ n := fun m hm =>
      hPool ▸ hSettle.pool m hm
    refine .capture (hWritten _ (hStore.trans (hTest fun x => x.journal.store)) (hFree.trans (hTest State.freeCount)))
      (fun hc => of_decide_eq_true (List.mem_filter.1 (hSub n hc)).2 rfl) (fun _ hDue hLeft => ?_) (fun hEmpty => ?_)
      (hFaults.trans (hTest State.faults)) (hReset.trans (hTest State.resetCtl)) (hService.trans (hTest State.service))
      (.trans (.of_integrity (by rw [hBlocks]) (by rw [hBlocks]) fun m hm => (List.mem_filter.1 (hPool ▸ hm)).1) hSettle)
    · have hDue' : (u.unpooled n).lowWaterTest.closingDue = false :=
        (closingDue_congr hState (by rw [hBlocks]) (by rw [hBlocks])).trans hDue
      have hProgress : (u.unpooled n).lowWaterTest.inProgress = u.inProgress := inProgress_of_blocks (by rw [hBlocks])
      obtain ⟨hNotices, hLinks, hJournal, hEngine⟩ := settle_quiet hDue' (by rw [hState, hProgress, hBlocks]; exact hLeft)
      have hLow := lowWater_of_test (v := u) (s := u.unpooled n) (.of_sessions rfl rfl rfl) rfl rfl (n := (u.unpooled n).pooled) rfl
      refine ⟨(congrArg Journal.pool hJournal).trans hPool, ?_⟩
      have hCount : (u.unpooled n).lowWaterTest.settle.pooled = (u.unpooled n).pooled := by
        rw [State.pooled, hJournal, hPool]
        rfl
      rw [hCount]
      exact hLow.congr hEngine hNotices hLinks
    · obtain ⟨-, -, -, hReserve, -⟩ := settle_told (.refl (u.unpooled n).lowWaterTest) (by rw [hBlocks]; exact hEmpty)
      rw [hReserve, hBlocks]
  · rw [if_neg hn]
    exact .capture (hWritten _ rfl rfl) hn (fun hc => absurd hc hn) (fun _ => rfl) rfl rfl rfl (.of_integrity rfl rfl fun _ hm => hm)

/-! An uncorrectable body (R96, R158, R159) -/

/-- What a damaged entry leaves, `y` being the state with its holders' counts lowered (R96, R158). -/
structure Damaged (y t : State) (n : Nat) (k : RegionKey) : Prop where
  stored : t.stored n = ⟨⟨.key k, .key k, .key k⟩, .entry damagedBody, .clean⟩
  assoc : t.assoc n = (y.assoc n).map fun a => { a with summary := damagedBody.summary }
  orphans : t.journal.orphans = insertOrphan ⟨k, 0#64⟩ (y.journal.orphans.filter fun x => x.key ≠ k)
  told : Told y t .entryDamaged
  raised : let z := if y.journal.orphans = [] then y.raiseBoth .orphansPresent (some 1#32) else y
    t.notices = (z.raiseBoth .entryDamaged none).notices ∧ t.links = (z.raiseBoth .entryDamaged none).links
  integrity : t.integrity = y.integrity
  pool : t.journal.pool = y.journal.pool
  faults : t.faults = (y.capture { kind := .bodyLost, slot := some n, block := some (blockOf n), key := some k }).faults

/-- The state with the damaged form in the slot, not yet in the orphan list. -/
def State.marred (y : State) (n : Nat) (k : RegionKey) : State := (y.keyWrite n (.key k)).bodyWrite n damagedBody

theorem marred_parts (y : State) (n : Nat) (k : RegionKey) : (y.marred n k).links = y.links ∧ (y.marred n k).sessions = y.sessions ∧
    (y.marred n k).notices = y.notices ∧ (y.marred n k).journal.orphans = y.journal.orphans ∧ (y.marred n k).journal.pool = y.journal.pool ∧
    (y.marred n k).integrity = y.integrity ∧ (y.marred n k).faults = y.faults ∧ (y.marred n k).resetCtl = y.resetCtl ∧
    (y.marred n k).service = y.service := by
  unfold State.marred
  simp [State.keyWrite]

theorem marred_slot (y : State) (n : Nat) (k : RegionKey) :
    (y.marred n k).stored n = ⟨⟨.key k, .key k, .key k⟩, .entry damagedBody, .clean⟩ ∧
    (y.marred n k).assoc n = (y.assoc n).map fun a => { a with summary := damagedBody.summary } := by
  unfold State.marred
  rw [(bodyWrite_stored ..).1, (bodyWrite_assoc ..).1, State.keyWrite, putSlot_stored_same]
  exact ⟨rfl, rfl⟩

theorem damageEntry_marred (s : State) (n : Nat) (a : Association) : s.damageEntry n a =
    ((((s.lowerHolders a.summary).marred n a.key).joinOrphans a.key 0#64).raiseBoth .entryDamaged none).capture
      { kind := .bodyLost, slot := some n, block := some (blockOf n), key := some a.key } := rfl

/-- An entry joins the orphan list: the notice unit is then as after the announcement alone (R80, R83). -/
theorem joinOrphans_alike {y u : State} (h : Alike y u) (hOrphans : u.journal.orphans = y.journal.orphans) (k : RegionKey) (stamp : Stamp) :
    Alike (if y.journal.orphans = [] then y.raiseBoth .orphansPresent (some 1#32) else y) (u.joinOrphans k stamp) := by
  have hJoined : Alike y (u.withOrphan k stamp) := ⟨h.links, h.isOpen, h.epoch, h.notices⟩
  rw [joinOrphans_eq, hOrphans]
  by_cases hEmpty : y.journal.orphans = []
  · have hCount : (u.withOrphan k stamp).orphanCount = 1 := by
      have hList : (u.withOrphan k stamp).journal.orphans = insertOrphan ⟨k, stamp⟩ (u.journal.orphans.filter fun o => o.key ≠ k) := rfl
      rw [State.orphanCount, hList, hOrphans, hEmpty]
      rfl
    rw [if_pos hEmpty, if_pos (List.isEmpty_iff.2 hEmpty), hCount]
    exact hJoined.raiseBoth ..
  · rw [if_neg hEmpty, if_neg fun hc => hEmpty (List.isEmpty_iff.1 hc)]
    exact hJoined

theorem stored_congr {s t : State} (hStore : t.journal.store = s.journal.store) (hFree : t.freeCount = s.freeCount) (n : Nat) :
    t.stored n = s.stored n := by
  rw [State.stored, State.stored, hStore, hFree]

theorem damaged_damageEntry (s : State) (n : Nat) (a : Association) : Damaged (s.lowerHolders a.summary) (s.damageEntry n a) n a.key := by
  rw [damageEntry_marred]
  generalize s.lowerHolders a.summary = y
  obtain ⟨hLinks, hSessions, hNotices, hOrphans, hPool, hIntegrity, hFaults, hReset, hService⟩ := marred_parts y n a.key
  have hAlike : Alike y (y.marred n a.key) := .of_sessions hLinks hSessions hNotices
  have hJoined := joinOrphans_alike hAlike hOrphans a.key 0#64
  obtain ⟨-, -, jStore, jIndex, jPool, -, -, -, -, -, jIntegrity, -, jService, jFaults, jReset, jFree, -⟩ :=
    joinOrphans_frame (y.marred n a.key) a.key 0#64
  have hList := (joined_joinOrphans hAlike hOrphans a.key 0#64).1
  have hRaised := raiseBoth_alike hJoined .entryDamaged none
  have hCaptured := capture_faults_congr (s := y)
    (t := ((y.marred n a.key).joinOrphans a.key 0#64).raiseBoth .entryDamaged none) (by rw [hRaised]; exact jFaults.trans hFaults)
    (by rw [hRaised]; exact jReset.trans hReset)
    (by rw [hRaised]; exact congrArg (fun x : ServicePort => x.settings.alertEnable) (jService.trans hService))
    { kind := .bodyLost, slot := some n, block := some (blockOf n), key := some a.key }
  have hStart : Tells y (if y.journal.orphans = [] then y.raiseBoth .orphansPresent (some 1#32) else y) := by
    split
    · exact .raiseBoth ..
    · exact .of_notices rfl
  have hTold := Told.of_tells hStart (told_raiseBoth _ (k := .entryDamaged) rfl)
  rw [capture_eq, hCaptured, hRaised]
  refine ⟨?_, (congrArg (SlotMap.find n) jIndex).trans (marred_slot y n a.key).2, hList, ⟨hTold.flag, hTold.waits⟩, ⟨rfl, rfl⟩, jIntegrity.trans hIntegrity, jPool.trans hPool, rfl⟩
  exact (stored_congr jStore jFree n).trans (marred_slot y n a.key).1

end Sys2Proof.Machine
end

section
/-! PROOFS. A slot read that loses something, assembled (R96, R153, R158 to R163, R166, R169). -/

-- The proofs are checked one after the other: run at once, their threads would exceed the memory bound of the check.
set_option Elab.async false

namespace Sys2Proof.Machine

theorem lost_iff {v : VoteOutcome} : v.lost = true ↔ v = .split ∨ v = .mismatch := by
  cases v <;> simp [VoteOutcome.lost]

/-! The judgement of a read that loses something (R153, R158 to R161) -/

theorem readQueues_of_loss {o : ReadOutcome} (h : o.vote.lost = true ∨ o.ecc = .uncorrectable) (bucket threshold : Nat) :
    readQueues bucket threshold o = true := by
  unfold readQueues
  rcases h with h | h
  · rw [h]
    rfl
  · rw [decide_eq_true h, Bool.or_true]
    rfl

theorem readBucket_of_loss {o : ReadOutcome} (h : o.vote.lost = true ∨ o.ecc = .uncorrectable) (bucket threshold : Nat) :
    readBucket bucket threshold o = if o.ecc = .uncorrectable
      then max (if o.vote = .oneOff then min 15 (bucket + 1) else bucket) threshold
      else if o.vote = .oneOff then min 15 (bucket + 1) else bucket := by
  unfold readBucket
  cases he : o.ecc with
  | clean => rfl
  | uncorrectable => rfl
  | corrected => exact if_pos (h.resolve_right (by rw [he]; nofun))

/-- The faults that the judgement leaves of the classes that a loss concerns. -/
theorem judged_faults {s : State} {n : Nat} (hn : n < 1024) (w : SlotWear) {o : ReadOutcome}
    (h : o.vote.lost = true ∨ o.ecc = .uncorrectable) :
    ((s.worn n w).judgeRead n o).faults.storeLost = s.faults.storeLost ∧
    ((s.block (blockOf n)).state = .inService → blockOf n ∉ s.integrity.retireQueue →
      (s.retirementCount < 4 → ((s.worn n w).judgeRead n o).faults.capacity = s.faults.capacity) ∧
      (4 ≤ s.retirementCount → ((s.worn n w).judgeRead n o).faults.capacity =
        (s.capture { kind := .retireLimit, block := some (blockOf n) }).faults.capacity)) ∧
    ((s.block (blockOf n)).state ≠ .inService ∨ blockOf n ∈ s.integrity.retireQueue →
      ((s.worn n w).judgeRead n o).faults.capacity = s.faults.capacity) := by
  have hParts := fun {α : Type} (f : State → α) => congrArg f (worn_eq s n w)
  have hHome : (s.worn n w).block (blockOf n) = s.block (blockOf n) := hParts fun x => x.block (blockOf n)
  have hQueue : (s.worn n w).integrity.retireQueue = s.integrity.retireQueue := hParts fun x => x.integrity.retireQueue
  have hCount : (s.worn n w).retirementCount = s.retirementCount := hParts State.retirementCount
  obtain ⟨-, -, hQueued, hRefused, hUntried⟩ := judged_judgeRead (s := s.worn n w) hn o
  rw [hHome, hQueue] at hQueued hRefused hUntried
  rw [hCount] at hQueued hRefused
  have hTest := readQueues_of_loss h (s.block (blockOf n)).bucket (s.worn n w).settings.bucketThreshold
  have hSame : ∀ {c : FaultClass}, c ≠ .storeCorrected → ((s.worn n w).corrections n o).faults.get c = s.faults.get c := fun hc => by
    rw [worn_corrections]
    exact corrections_get s n o hc
  have hReset : ((s.worn n w).corrections n o).resetCtl = s.resetCtl := by
    rw [corrections_eq]
    exact hParts State.resetCtl
  obtain ⟨hOthers, hClass⟩ := capture_get (s := s) (t := (s.worn n w).corrections n o) { kind := .retireLimit, block := some (blockOf n) }
  obtain ⟨hOthers', -⟩ := capture_get (s := (s.worn n w).corrections n o) (t := s) { kind := .retireLimit, block := some (blockOf n) }
  have hCapacity : ∀ f : Faults, f = ((s.worn n w).corrections n o).faults → f.capacity = s.faults.capacity := fun f hf => by
    rw [hf]
    exact hSame (c := .capacity) nofun
  have hStore : ∀ f : Faults, f = ((s.worn n w).corrections n o).faults → f.storeLost = s.faults.storeLost := fun f hf => by
    rw [hf]
    exact hSame (c := .storeLost) nofun
  refine ⟨?_, fun hIn hOut => ⟨fun hRoom => hCapacity _ (hQueued hTest hIn hOut hRoom).2, fun hFull => ?_⟩, fun hNot => hCapacity _ (hUntried hNot)⟩
  · by_cases hNot : (s.block (blockOf n)).state ≠ .inService ∨ blockOf n ∈ s.integrity.retireQueue
    · exact hStore _ (hUntried hNot)
    · obtain ⟨hIn, hOut⟩ := not_or.1 hNot
      rcases Nat.lt_or_ge s.retirementCount 4 with hRoom | hFull
      · exact hStore _ (hQueued hTest (Classical.not_not.1 hIn) hOut hRoom).2
      · rw [(hRefused hTest (Classical.not_not.1 hIn) hOut hFull).2]
        exact (hOthers' .storeLost nofun).trans (hSame (c := .storeLost) nofun)
  · rw [(hRefused hTest hIn hOut hFull).2]
    exact hClass (hSame (c := .capacity) nofun) hReset

/-- In the block in progress a read queues nothing, and the judgement changes the bucket alone. -/
theorem judgeRead_of_progress {s : State} {n : Nat} (h : s.inProgress = some (blockOf n)) (o : ReadOutcome) :
    s.judgeRead n o = s.noted n o := by
  have hNot : (s.block (blockOf n)).state ≠ .inService := not_inService_of_inProgress (inProgress_of_some h)
  have hProgress : (s.noted n o).inProgress = some (blockOf n) := (inProgress_congr fun b => by rw [noted_state]).trans h
  rw [judgeRead_eq]
  split
  · rw [(queueBlock_cases (s.noted n o) (blockOf n)).2.2 (.inl (by rw [noted_state]; exact hNot))]
    refine enterIfDue_of_not_due (Bool.eq_false_iff.2 fun hDue => ?_)
    rw [(closingDue_iff.1 hDue).2.1] at hProgress
    cases hProgress
  · rfl

theorem judged_progress {s : State} {n : Nat} (h : s.inProgress = some (blockOf n)) (w : SlotWear) (o : ReadOutcome) :
    ((s.worn n w).judgeRead n o).inProgress = some (blockOf n) ∧
    ((s.worn n w).judgeRead n o).integrity.reserve = s.integrity.reserve ∧
    ((s.worn n w).judgeRead n o).integrity.retireQueue = s.integrity.retireQueue := by
  have hParts := fun {α : Type} (f : State → α) => congrArg f (worn_eq s n w)
  have hWorn : (s.worn n w).inProgress = some (blockOf n) := (hParts State.inProgress).trans h
  rw [judgeRead_of_progress hWorn, noted_integrity]
  exact ⟨(inProgress_congr fun b => by rw [noted_state]).trans hWorn, hParts fun x => x.integrity.reserve, hParts fun x => x.integrity.retireQueue⟩

/-! The third step of a read that loses something -/

theorem actOnRead_of_lost {o : ReadOutcome} (h : o.vote.lost = true) (u : State) (n : Nat) :
    (∀ a, u.actOnRead n (some a) o = u.loseEntry n a) ∧ u.actOnRead n none o = u.loseFreeSlot n := by
  unfold State.actOnRead
  exact ⟨fun a => if_pos h, if_pos h⟩

theorem actOnRead_of_uncorrectable {o : ReadOutcome} (h : o.vote.lost = false) (he : o.ecc = .uncorrectable) (u : State) (n : Nat) :
    (∀ a, u.actOnRead n (some a) o = u.damageEntry n a) ∧ u.actOnRead n none o =
      (u.freeWrite n).capture { kind := .bodyLost, slot := some n, block := some (blockOf n) } := by
  unfold State.actOnRead
  rw [h, he]
  exact ⟨fun a => rfl, rfl⟩

theorem actOnRead_of_kept {o : ReadOutcome} (h : o.vote.lost = false) (he : o.ecc ≠ .uncorrectable) (u : State) (n : Nat) (a : Option Association) :
    ∃ store, u.actOnRead n a o = { u with journal := { u.journal with store := store } } := by
  by_cases hSome : o.vote = .oneOff ∨ o.ecc = .corrected
  · have hVote : o.vote = .agree ∨ o.vote = .oneOff := by
      cases hv : o.vote with
      | agree => exact .inl rfl
      | oneOff => exact .inr rfl
      | split | mismatch =>
        rw [hv] at h
        cases h
    have hEcc : o.ecc = .clean ∨ o.ecc = .corrected := by
      cases hc : o.ecc with
      | clean => exact .inl rfl
      | corrected => exact .inr rfl
      | uncorrectable => exact absurd hc he
    rw [Repairs.actOnRead_eq ⟨hVote, hEcc, hSome⟩]
    split
    · exact ⟨_, rfl⟩
    · exact ⟨_, rfl⟩
  · obtain ⟨hOneOff, hCorrected⟩ := not_or.1 hSome
    refine ⟨u.journal.store, ?_⟩
    have hClean : o.ecc = .clean := by
      cases hc : o.ecc with
      | clean => rfl
      | corrected => exact absurd hc hCorrected
      | uncorrectable => exact absurd hc he
    unfold State.actOnRead
    rw [h, hClean]
    exact if_neg hOneOff

theorem lowerHolders_retires (u : State) (h : HolderSummary) : Retires u (u.lowerHolders h) :=
  .of_integrity (by simp) (by simp) fun m hm => by simpa using hm

theorem actOnRead_retires (u : State) (n : Nat) (a : Option Association) (o : ReadOutcome) : Retires u (u.actOnRead n a o) := by
  cases hLost : o.vote.lost with
  | true =>
    obtain ⟨hLive, hFree⟩ := actOnRead_of_lost hLost u n
    cases a with
    | some a =>
      rw [hLive, loseEntry_struck]
      exact (lowerHolders_retires u a.summary).trans (lost_settle_struck ..).retires
    | none =>
      rw [hFree]
      exact (withdrawn_loseFreeSlot u n).retires
  | false =>
    by_cases he : o.ecc = .uncorrectable
    · obtain ⟨hLive, hFree⟩ := actOnRead_of_uncorrectable hLost he u n
      cases a with
      | some a =>
        have hDamaged := damaged_damageEntry u n a
        rw [hLive]
        exact (lowerHolders_retires u a.summary).trans
          (.of_integrity (by rw [hDamaged.integrity]) (by rw [hDamaged.integrity]) fun m hm => by rwa [hDamaged.pool] at hm)
      | none =>
        rw [hFree, capture_eq]
        exact .of_integrity rfl rfl fun _ hm => hm
    · obtain ⟨store, hSame⟩ := actOnRead_of_kept hLost he u n a
      rw [hSame]
      exact .of_integrity rfl rfl fun _ hm => hm

/-- A loss is captured in its class, which depends on the class alone. -/
theorem capture_loss {s u : State} {f : FaultRecord} (hf : f.kind.faultClass = .storeLost) (hClass : u.faults.storeLost = s.faults.storeLost)
    (hReset : u.resetCtl = s.resetCtl) : (u.capture f).faults.storeLost = (s.capture f).faults.storeLost ∧
      (u.capture f).faults.capacity = u.faults.capacity := by
  obtain ⟨-, hSame⟩ := capture_get (s := s) (t := u) f
  obtain ⟨hOthers, -⟩ := capture_get (s := u) (t := s) f
  rw [hf] at hSame hOthers
  exact ⟨hSame hClass hReset, hOthers .capacity nofun⟩

theorem actOnRead_capacity {u : State} {n : Nat} {a : Option Association} {o : ReadOutcome} :
    (u.actOnRead n a o).faults.capacity = u.faults.capacity := by
  have hLoss : ∀ (x : State) (f : FaultRecord), f.kind.faultClass = .storeLost → (x.capture f).faults.capacity = x.faults.capacity :=
    fun x f hf => (capture_loss (s := x) hf rfl rfl).2
  have hHolders : ∀ h : HolderSummary, (u.lowerHolders h).faults = u.faults := fun h => by simp
  cases hLost : o.vote.lost with
  | true =>
    obtain ⟨hLive, hFree⟩ := actOnRead_of_lost hLost u n
    cases a with
    | some a =>
      rw [hLive, loseEntry_struck, (lost_settle_struck ..).faults, hLoss _ _ rfl, hHolders]
    | none => rw [hFree, (withdrawn_loseFreeSlot u n).faults, hLoss _ _ rfl]
  | false =>
    by_cases he : o.ecc = .uncorrectable
    · obtain ⟨hLive, hFree⟩ := actOnRead_of_uncorrectable hLost he u n
      cases a with
      | some a => rw [hLive, (damaged_damageEntry u n a).faults, hLoss _ _ rfl, hHolders]
      | none =>
        rw [hFree, hLoss _ _ rfl]
        rfl
    · obtain ⟨store, hSame⟩ := actOnRead_of_kept hLost he u n a
      rw [hSame]

theorem lowered_congr {s t : State} (h : t.sessions = s.sessions) (p : Port) (x : HolderSummary) : t.lowered p x = s.lowered p x := by
  unfold State.lowered State.isOpen State.session
  rw [h]

theorem arbiterWithout_congr {s t : State} (hArbiter : t.arbiter = s.arbiter) (hSweeper : t.sweeper = s.sweeper)
    (hState : t.engine.state = s.engine.state) (n : Nat) : t.arbiterWithout n = s.arbiterWithout n := by
  unfold State.arbiterWithout
  rw [hArbiter, hSweeper, hState]

end Sys2Proof.Machine
end

section
/-! PROOFS. The statement about reads that lose something. -/

-- The proofs are checked one after the other: run at once, their threads would exceed the memory bound of the check.
set_option Elab.async false

namespace Sys2Proof.Machine

/-- The reserve after a read in the block in progress, with no further block waiting (R160, R166, R169). -/
theorem actOnRead_reserve {u : State} {n : Nat} {o : ReadOutcome} (hb : u.inProgress = some (blockOf n))
    (hEmpty : u.integrity.retireQueue = []) (a : Option Association) :
    (o.vote.lost = true → a ≠ none → (u.actOnRead n a o).integrity.reserve = u.integrity.reserve - 1 ∧
      (u.engine.state = .ready → u.integrity.reserve ≤ 1 → ((u.actOnRead n a o).block (blockOf n)).state = .retired)) ∧
    (o.vote.lost = false ∨ a = none → (u.actOnRead n a o).integrity.reserve = u.integrity.reserve) := by
  have hHolders : ∀ h : HolderSummary, (u.lowerHolders h).integrity = u.integrity := fun h => by simp
  refine ⟨fun hLost ha => ?_, fun h => ?_⟩
  · obtain ⟨a, rfl⟩ := Option.ne_none_iff_exists'.1 ha
    have hReserve := settle_struck_reserve (y := u.lowerHolders a.summary) (n := n) (k := a.key)
      ((inProgress_of_blocks (by rw [hHolders])).trans hb) (by rw [hHolders]; exact hEmpty)
    have hEngine : (u.lowerHolders a.summary).engine = u.engine := by simp
    rw [hHolders, hEngine] at hReserve
    rw [(actOnRead_of_lost hLost u n).1, loseEntry_struck]
    exact hReserve
  · cases hLost : o.vote.lost with
    | true =>
      obtain rfl : a = none := h.resolve_left (by rw [hLost]; nofun)
      rw [(actOnRead_of_lost hLost u n).2]
      exact (withdrawn_loseFreeSlot u n).reserve hEmpty
    | false =>
      by_cases he : o.ecc = .uncorrectable
      · obtain ⟨hLive, hFree⟩ := actOnRead_of_uncorrectable hLost he u n
        cases a with
        | some a => rw [hLive, (damaged_damageEntry u n a).integrity, hHolders]
        | none =>
          rw [hFree, capture_eq]
          rfl
      · obtain ⟨store, hSame⟩ := actOnRead_of_kept hLost he u n a
        rw [hSame]

/-- What the judgement leaves alone. -/
theorem judged_parts (s : State) (n : Nat) (w : SlotWear) (o : ReadOutcome) :
    ((s.worn n w).judgeRead n o).sessions = s.sessions ∧ ((s.worn n w).judgeRead n o).arbiter = s.arbiter ∧
    ((s.worn n w).judgeRead n o).journal.orphans = s.journal.orphans ∧
    ((s.worn n w).judgeRead n o).journal.compromised = s.journal.compromised ∧
    ((s.worn n w).judgeRead n o).engine.state = s.engine.state ∧ ((s.worn n w).judgeRead n o).sweeper = s.sweeper ∧
    ((s.worn n w).judgeRead n o).resetCtl = s.resetCtl ∧ Tells s ((s.worn n w).judgeRead n o) := by
  obtain ⟨hSessions, hArbiter, -, -, hOrphans, -, -, hComp, hEngine, -, -, hSweeper, -, -, -, -, hReset, -⟩ := judgeRead_frame (s.worn n w) n o
  have hParts := fun {α : Type} (f : State → α) => congrArg f (worn_eq s n w)
  exact ⟨hSessions.trans (hParts State.sessions), hArbiter.trans (hParts State.arbiter), hOrphans.trans (hParts fun x => x.journal.orphans),
    hComp.trans (hParts fun x => x.journal.compromised), hEngine.trans (hParts fun x => x.engine.state), hSweeper.trans (hParts State.sweeper),
    hReset.trans (hParts State.resetCtl), .trans (.of_notices (hParts State.notices)) (.judgeRead ..)⟩

/-- The lowering of the counts, after the judgement of a read. -/
theorem lowered_parts {s u : State} (hSessions : u.sessions = s.sessions) (h : HolderSummary) (q : Port) :
    (u.lowerHolders h).session q = s.lowered q h := by
  rw [lowerHolders_session, lowered_congr hSessions]

/-- Settles O48, by the four reads that lose something. -/
theorem lostReadsRemoveOrDamage : Obligations.LostReadsRemoveOrDamage := by
  unfold Obligations.LostReadsRemoveOrDamage
  intro s n w hn hw hLive o t b lost judged told raisedFrom
  have hRead : t = judged.actOnRead n (s.assoc n) o := readRaw_of_not_retired hLive w
  have hLost : lost ↔ o.vote.lost = true := lost_iff.symm
  have hLeaves := (readRaw_leaves hw n w).other
  obtain ⟨-, -, -, -, fStamp, fGen, fEngine, -, -, fSweeper, -, -, -, fService, fReset, -, -⟩ := readRaw_frame s n w
  have hSlots : judged.journal.index = s.journal.index ∧ (∀ m, judged.assoc m = s.assoc m) ∧ _ := judged_slots s n w o
  obtain ⟨uIndex, uAssoc, -⟩ := hSlots
  have hJudgement : judged.sessions = _ ∧ judged.arbiter = _ ∧ judged.journal.orphans = _ ∧ judged.journal.compromised = _ ∧
    judged.engine.state = _ ∧ judged.sweeper = _ ∧ judged.resetCtl = _ ∧ Tells s judged := judged_parts s n w o
  obtain ⟨uSessions, uArbiter, uOrphans, uComp, uEngine, uSweeper, uReset, hTells⟩ := hJudgement
  have hParts := fun {α : Type} (f : State → α) => congrArg f (worn_eq s n w)
  have hJudged := judged_judgeRead (s := s.worn n w) hn o
  have hActs := actOnRead_retires judged n (s.assoc n) o
  have hLost' : ¬lost → o.vote.lost = false := fun hl => Bool.eq_false_iff.2 fun hc => hl (hLost.2 hc)
  have hClass : o.vote.lost = true ∨ o.ecc = .uncorrectable → judged.faults.storeLost = s.faults.storeLost := fun h =>
    (judged_faults hn w h).1
  refine ⟨fun m hm => (hLeaves m hm).symm, fun m hm => ?_, fStamp, fGen, fService, fSweeper, fEngine, fun hLoss => ?_, fun hProgress hEmpty => ?_,
    fun a ha hl => ?_, fun ha hl => ?_, fun a ha hl he => ?_, fun ha hl he => ?_⟩
  · rw [hRead] at hm
    have hPool := hJudged.pool m (hActs.pool m hm)
    rw [hParts State.journal] at hPool
    exact hPool
  · have hLoss' := hLoss.imp_left hLost.1
    have hHome : (s.worn n w).block (blockOf n) = b := hParts fun x => x.block (blockOf n)
    have hThreshold : (s.worn n w).settings.bucketThreshold = s.settings.bucketThreshold := hParts fun x => x.settings.bucketThreshold
    have hQueue : (s.worn n w).integrity.retireQueue = s.integrity.retireQueue := hParts fun x => x.integrity.retireQueue
    have hCount : (s.worn n w).retirementCount = s.retirementCount := hParts State.retirementCount
    obtain ⟨hBucket, -, hQueued, hRefused, -⟩ := hJudged
    rw [hHome, hThreshold] at hBucket hQueued hRefused
    rw [hQueue, hCount] at hQueued hRefused
    have hTest := readQueues_of_loss hLoss' b.bucket s.settings.bucketThreshold
    obtain ⟨-, hTried, hUntried⟩ := judged_faults hn w hLoss'
    have hCapacity : t.faults.capacity = judged.faults.capacity := by
      rw [hRead]
      exact actOnRead_capacity
    rw [← hRead] at hActs
    refine ⟨?_, fun m hm => ?_, fun hIn hOut => ⟨fun hRoom => ⟨?_, ?_⟩, fun hFull => ?_⟩, fun hNot => hCapacity.trans (hUntried hNot)⟩
    · exact (hActs.bucket (n / 64)).trans ((hBucket (n / 64)).trans ((if_pos rfl).trans (readBucket_of_loss hLoss' _ _)))
    · exact (hActs.bucket m).trans ((hBucket m).trans ((if_neg hm).trans (hParts fun x => (x.block m).bucket)))
    · exact hActs.waits _ (blockOf_lt hn) (hQueued hTest hIn hOut hRoom).1
    · exact hCapacity.trans ((hTried hIn hOut).1 hRoom)
    · obtain ⟨hNot, hService⟩ := (hRefused hTest hIn hOut hFull).1
      obtain ⟨hNot', hService'⟩ := hActs.stays _ hNot hService
      exact ⟨hService', hNot', hCapacity.trans ((hTried hIn hOut).2 hFull)⟩
  · have hSame : judged.inProgress = _ ∧ judged.integrity.reserve = _ ∧ judged.integrity.retireQueue = _ := judged_progress hProgress w o
    obtain ⟨hBlock, hReserve, hQueue⟩ := hSame
    obtain ⟨hTaken, hKept⟩ := actOnRead_reserve (o := o) hBlock (hQueue.trans hEmpty) (s.assoc n)
    rw [← hRead, hReserve, uEngine] at hTaken
    rw [← hRead, hReserve] at hKept
    exact ⟨fun hl ha => hTaken (hLost.1 hl) ha, fun h => hKept (h.imp_left hLost')⟩
  · have hEntry : t = judged.loseEntry n a := by
      rw [hRead, ha]
      exact (actOnRead_of_lost (hLost.1 hl) judged n).1 a
    have hGone := lost_settle_struck (judged.lowerHolders a.summary) n a.key
    rw [← loseEntry_struck, ← hEntry] at hGone
    obtain ⟨yArbiter, yJournal, yEngine, ySweeper, -, -, -, yFaults, yReset, -, -⟩ := lowerHolders_frame judged a.summary
    have hTold := Told.of_tells (hTells.trans (.lowerHolders judged a.summary)) hGone.told
    refine ⟨hGone.stored, ?_, ?_, hGone.compromised, fun q => ⟨fun h => hTold.flag h q, fun l h => hTold.waits l h q⟩, fun q => ?_, ?_,
      hGone.quiet, ?_⟩
    · rw [hEntry]
      exact loseEntry_assoc (by rw [uIndex]; exact hw) a
    · rw [hGone.orphans, yJournal, uOrphans]
    · rw [← lowered_parts uSessions, hEntry, State.session, loseEntry_sessions]
      rfl
    · rw [hGone.arbiter]
      exact arbiterWithout_congr (yArbiter.trans uArbiter) (ySweeper.trans uSweeper) ((congrArg Engine.state yEngine).trans uEngine) n
    · rw [hGone.faults]
      exact (capture_loss rfl ((congrArg Faults.storeLost yFaults).trans (hClass (.inl (hLost.1 hl)))) (yReset.trans uReset)).1
  · have hFree : t = judged.loseFreeSlot n := by
      rw [hRead, ha]
      exact (actOnRead_of_lost (hLost.1 hl) judged n).2
    have hGone := withdrawn_loseFreeSlot judged n
    obtain ⟨tSessions, tArbiter, tIndex, tOrphans, -, -, tComp, -⟩ := loseFreeSlot_frame judged n
    rw [← hFree] at hGone tSessions tArbiter tIndex tOrphans tComp
    refine ⟨hGone.stored, ?_, hGone.pool, tOrphans.trans uOrphans, tComp.trans uComp, tSessions.trans uSessions, tArbiter.trans uArbiter,
      hGone.quiet, ?_⟩
    · rw [State.assoc, tIndex, uIndex]
      exact ha
    · rw [hGone.faults]
      exact (capture_loss rfl (hClass (.inl (hLost.1 hl))) uReset).1
  · have hEntry : t = judged.damageEntry n a := by
      rw [hRead, ha]
      exact (actOnRead_of_uncorrectable (hLost' hl) he judged n).1 a
    have hDamaged := damaged_damageEntry judged n a
    obtain ⟨tArbiter, -, -, tComp, -⟩ := damageEntry_frame judged n a
    obtain ⟨-, yJournal, -, -, -, -, -, yFaults, yReset, -, -⟩ := lowerHolders_frame judged a.summary
    rw [← hEntry] at hDamaged tArbiter tComp
    have hTold := Told.of_tells (hTells.trans (.lowerHolders judged a.summary)) hDamaged.told
    have hRaised := hDamaged.raised
    rw [yJournal, uOrphans] at hRaised
    refine ⟨hDamaged.stored, ?_, ?_, tComp.trans uComp, fun q => ⟨fun h => hTold.flag h q, fun l h => hTold.waits l h q⟩, fun q => ?_,
      tArbiter.trans uArbiter, hRaised, ?_⟩
    · have hAssoc : (judged.lowerHolders a.summary).assoc n = some a := by
        rw [State.assoc, yJournal]
        exact (uAssoc n).trans ha
      rw [hDamaged.assoc, hAssoc]
      rfl
    · rw [hDamaged.orphans, yJournal, uOrphans]
    · rw [← lowered_parts uSessions, hEntry, State.session, damageEntry_sessions]
      rfl
    · rw [hDamaged.faults]
      exact (capture_loss rfl ((congrArg Faults.storeLost yFaults).trans (hClass (.inr he))) (yReset.trans uReset)).1
  · have hFree : t = (judged.freeWrite n).capture { kind := .bodyLost, slot := some n, block := some (n / 64) } := by
      rw [hRead, ha]
      exact (actOnRead_of_uncorrectable (hLost' hl) he judged n).2
    have hFaults := (capture_loss (s := s) (u := judged.freeWrite n) (f := { kind := .bodyLost, slot := some n, block := some (n / 64) }) rfl
      (hClass (.inr he)) uReset).1
    rw [← hFree] at hFaults
    rw [capture_eq] at hFree
    rw [hFree] at hFaults ⊢
    exact ⟨putSlot_stored_same .., (uAssoc n).trans ha, uOrphans, uComp, uSessions, uArbiter, rfl, rfl, hFaults⟩

end Sys2Proof.Machine
end
